-- ==== Sys2Proof/Word.lean ====
section
/-! DEFINITION. The widths of the KA-312's numbers (spec/00_scope.md, Conventions). -/

namespace Sys2Proof

/-- One byte of host memory, of a request's data or of the control window. -/
abbrev Byte := BitVec 8

/-- One 32-bit word of the control window (R165, R166). -/
abbrev Word := BitVec 32

/-- A link address: 32 bits, in one requester's own link address space. -/
abbrev LinkAddr := BitVec 32

/-- A memory address: 40 bits, in host memory. -/
abbrev MemAddr := BitVec 40

/-- A frame number of a page map entry (R71). -/
abbrev Frame := BitVec 28

/-- The generation of an aperture record, which wraps at 65535 (R4). -/
abbrev Generation := BitVec 16

/-- A requester number, 0 to 15. -/
abbrev RequesterId := Fin 16

/-- A link tag, 0 to 3. -/
abbrev LinkTag := Fin 4

/-- An aperture index, 0 to 63. -/
abbrev ApIndex := Fin 64

/-- A command slot number, 0 to 7. -/
abbrev SlotId := Fin 8

/-- A port tag number, 0 to 7. -/
abbrev PortTagId := Fin 8

end Sys2Proof
end

