-- ==== Sys2Proof/Syntax.lean ====
section
/-! DEFINITION. The commands of spec/opcode_table.json, one constructor of `Instr` for each row, with the messages they carry. -/

namespace Sys2Proof

/-- The direction of a request (R47). -/
inductive Direction where
  | read
  | write
  deriving DecidableEq, Repr

/-- What a request of one kind carries (R47): a WRITE has one enable flag for each byte of the line and its data in link
address order; a READ has neither. -/
inductive Payload where
  | read
  | write (enables : BitVec 64) (data : List Byte)
  deriving DecidableEq, Repr

/-- A request on the device link (R47). A parked transaction is the request as it arrived (R89), so the walker's waiters
are requests too. -/
structure Request where
  requester : RequesterId
  tag : LinkTag
  payload : Payload
  /-- The link address of the first byte. -/
  addr : LinkAddr
  /-- As encoded on the link, 0 to 127. -/
  length : BitVec 7
  deriving DecidableEq, Repr

/-- An answer of host memory (R158): OK with the bytes asked for (none for a write), or ERROR. -/
inductive Answer where
  | ok (data : List Byte)
  | error
  deriving DecidableEq, Repr

/-- The qualifier of a failed access (R33) and of a failed preload (R165). -/
inductive Qualifier where
  | error
  | timeout
  deriving DecidableEq, Repr

/-- What resets the part in a PART_RESET event (R176). -/
inductive ResetCause where
  /-- RESET_N goes low, and stays low until RESET_N_RELEASE. -/
  | resetNLow
  /-- Power comes on. The pin keeps the level it is driven to (DESIGN CHOICE, log 4). -/
  | powerOn
  deriving DecidableEq, Repr

/-- How a RUNNING TC_PRELOAD ends at the completion of its walk (R82). -/
inductive PreloadEnd where
  | installed
  | pinLimit
  | noPage
  | walkError (q : Qualifier)
  deriving DecidableEq, Repr

/-- The commands of the table. A take has no operand of its own: the command taken is the oldest eligible slot's, and its
operands stand in that slot (R170, R177). A control window write carries the word written (log 13). -/
inductive Instr where
  /-- ARRIVAL: a request arrives whole on the device link (R51). -/
  | arrival (q : Request)
  /-- LINK_RESET: the link partner signals a link reset (R62). -/
  | linkReset
  /-- PART_RESET: RESET_N low or power-on (R176). -/
  | partReset (cause : ResetCause)
  /-- ANSWER: an answer of host memory arrives under a port tag (R159). -/
  | answer (tag : PortTagId) (a : Answer)
  /-- EXPIRY: the request under a BUSY port tag expires (R161). -/
  | expiry (tag : PortTagId)
  /-- GRANT: the arbiter grants this FREE port tag (R157); which FREE tag is left open by R156. -/
  | grant (tag : PortTagId)
  /-- Take of AP_SET (R18). -/
  | apSet
  /-- Take of AP_RETIRE (R141). -/
  | apRetire
  /-- Take of AP_INVALIDATE (R146). -/
  | apInvalidate
  /-- Take of QUERY_APERTURE (R25). -/
  | queryAperture
  /-- Take of REQ_ENABLE (R40). -/
  | reqEnable
  /-- Take of REQ_DISABLE (R41). -/
  | reqDisable
  /-- Take of REQ_HALT (R42). -/
  | reqHalt
  /-- Take of REQ_RESUME (R44). -/
  | reqResume
  /-- Take of FAULT_CLEAR (R45). -/
  | faultClear
  /-- Take of QUERY_REQUESTER (R46). -/
  | queryRequester
  /-- Take of TC_PRELOAD (R79). -/
  | tcPreload
  /-- Take of TC_UNPIN (R84). -/
  | tcUnpin
  /-- Take of QUERY_TC (R85). -/
  | queryTc
  /-- Take of FLUSH (R150). -/
  | flush
  /-- Take of a slot whose operation code names no command (R171). -/
  | badOp
  /-- AP_RETIRE_COMPLETION of the command in a slot (R143). -/
  | apRetireCompletion (slot : SlotId)
  /-- AP_INVALIDATE_COMPLETION of the command in a slot (R147). -/
  | apInvalidateCompletion (slot : SlotId)
  /-- FLUSH_COMPLETION of the command in a slot (R151). -/
  | flushCompletion (slot : SlotId)
  /-- REQ_HALT_COMPLETION of the command in a slot (R43). -/
  | reqHaltCompletion (slot : SlotId)
  /-- TC_PRELOAD_COMPLETION of the command in a slot with its walk's outcome (R82). -/
  | tcPreloadCompletion (slot : SlotId) (outcome : PreloadEnd)
  /-- START: a write to word 7 of a slot with action 1 (R167). -/
  | start (slot : SlotId) (value : Word)
  /-- ACK: a write to word 7 of a slot with action 2 (R168). -/
  | ack (slot : SlotId) (value : Word)
  /-- SLOT_WORD_WRITE: a write to one of words 0 to 6 of a slot (R166). -/
  | slotWordWrite (slot : SlotId) (index : Fin 7) (value : Word)
  /-- LINK_ENABLE: a write of CONTROL with SOFT_RESET 0 (R174). -/
  | linkEnable (value : Word)
  /-- SOFT_RESET: a write of CONTROL with SOFT_RESET 1 (R174). -/
  | softReset (value : Word)
  /-- INT_STATUS_WRITE (R173). -/
  | intStatusWrite (value : Word)
  /-- INT_ENABLE_WRITE (R172, R173). -/
  | intEnableWrite (value : Word)
  /-- RESPONSE_LIMIT_WRITE (R160, R175). -/
  | responseLimitWrite (value : Word)
  /-- REGISTER_WRITE: a write access to the control window as the host makes it, bytes from an offset upwards (R175, R178).
  The whole aligned word at a listed offset is the write of that register or slot word. -/
  | registerWrite (offset : BitVec 12) (bytes : List Byte)
  /-- RESET_N_RELEASE: RESET_N returns high (R176). -/
  | resetNRelease
  /-- WORD_7_ACTION_3: a write to word 7 of a slot with action 3 (R167). -/
  | word7Action3 (slot : SlotId) (value : Word)
  deriving DecidableEq, Repr

end Sys2Proof
end

