-- ==== Sys2Proof/Decode.lean ====
section
/-! DEFINITION. Words of the opcode table. The KA-312 is a block that takes commands; no row of spec/opcode_table.json gives
bits ("fields" is empty and there is no "fixed" in every row, spec/98_reader.md counts 0 rows with fixed bits), so no word
spells a command. -/

namespace Sys2Proof

/-- The command that a word spells by the table's bits: none, since no row gives bits (DEDUCED, log 12). -/
def decodeTableWord (_nbits _w : Nat) : Option Instr := none

end Sys2Proof
end

