-- ==== Sys2Proof/Config.lean ====
section
/-! DEFINITION. What the manual fixes as capacities, and the one value it leaves open. -/

namespace Sys2Proof.Config

/-- Entries of the translation cache (R68). -/
abbrev tcEntries : Nat := 32

/-- Pinned entries of the translation cache (R68, R76). -/
abbrev tcPins : Nat := 24

/-- Walk slots (R87). -/
abbrev walkSlots : Nat := 4

/-- Places of the park pool (R89). -/
abbrev parkPlaces : Nat := 8

/-- Entries of the posted write queue (R107). -/
abbrev writeEntries : Nat := 8

/-- Entries of the read tracker (R123). -/
abbrev readEntries : Nat := 8

/-- Bytes of a page map entry, the answer of a walk's read (R71, R94). -/
abbrev pageEntryBytes : Nat := 8

/-- The word ID reads: vendor code 0xA6C, part code 0x312, revision 1 (R175; spec/11, BRING-UP). -/
abbrev idWord : Word := 0xA6C31201#32

/-- The fault count's largest value (R34). -/
abbrev faultCountMax : Nat := 255

/-- A byte that an OK answer of host memory should carry and does not. R158 says that an OK answer carries
exactly the bytes asked for, so the manual gives such a byte no value: it is free, and nothing constrains it.
DESIGN CHOICE, log 5, safe. -/
opaque missingAnswerByte : Nat → Byte

end Sys2Proof.Config
end

