-- ==== Sys2Proof/Machine/State.lean ====
section
/-! DEFINITION. The state of the KA-312: every record, collection, register and pin the manual names, as plain data, and its
value after reset. INVENTORY.md lists each with its rule. -/

namespace Sys2Proof.Machine

/-! ## Apertures (R1 to R7) -/

/-- The directions an aperture serves (R1, R14). -/
inductive Access where
  | read
  | write
  | readWrite
  deriving DecidableEq, Repr

/-- How reads through an aperture wait for earlier posted writes (R1, R16). -/
inductive ReadOrder where
  | strict
  | line
  deriving DecidableEq, Repr

/-- The mode of an aperture with the one base field the mode makes present (R1). -/
inductive ApBase where
  | direct (memBase : MemAddr)
  | mapped (mapBase : MemAddr)
  deriving DecidableEq, Repr

/-- The fields of an aperture record that are present when it is not FREE (R1). -/
structure Grant where
  owner : RequesterId
  linkBase : LinkAddr
  /-- 1 to 65,536. -/
  pages : Nat
  base : ApBase
  access : Access
  ordering : ReadOrder
  deriving DecidableEq, Repr

/-- The state of an aperture record with the fields it makes present (R1, R3). -/
inductive ApLife where
  | free
  | live (g : Grant)
  | retiring (g : Grant)
  deriving DecidableEq, Repr

/-- An aperture record: the generation is present in every state (R1). -/
structure Aperture where
  generation : Generation
  life : ApLife
  deriving DecidableEq, Repr

/-! ## Requesters (R26 to R36) -/

/-- The states of a requester record (R27). -/
inductive RequesterState where
  | disabled
  | enabled
  | halting
  | halted
  | stopped
  deriving DecidableEq, Repr

/-- A captured fault, each kind with the fields R33 makes present for it. WRITE_LOST always has direction WRITE (R116) and
MEMORY_ERROR always READ (R130). -/
inductive FaultRecord where
  | protocol (dir : Direction) (addr : LinkAddr)
  | noAperture (dir : Direction) (addr : LinkAddr)
  | permission (dir : Direction) (addr : LinkAddr) (ap : ApIndex)
  | noPage (dir : Direction) (addr : LinkAddr) (ap : ApIndex) (entry : MemAddr)
  | walkError (q : Qualifier) (dir : Direction) (addr : LinkAddr) (ap : ApIndex) (entry : MemAddr)
  | writeLost (q : Qualifier) (addr : LinkAddr) (ap : ApIndex)
  | memoryError (q : Qualifier) (addr : LinkAddr) (ap : ApIndex)
  deriving DecidableEq, Repr

/-- A requester record (R26). -/
structure Requester where
  state : RequesterState
  stopOnFault : Bool
  firstFault : Option FaultRecord
  /-- 0 to 255. -/
  faultCount : Nat
  deriving DecidableEq, Repr

/-! ## The device link (R48, R49) -/

/-- The state of a link tag (R49). -/
inductive TagState where
  | free
  | busy
  deriving DecidableEq, Repr

/-- The reasons of RETRY (R48, R61). -/
inductive RetryReason where
  | notReady
  | halted
  | queueFull
  | trackerFull
  | walkBusy
  | parkFull
  | invalidated
  deriving DecidableEq, Repr

/-- The kinds of ABORT (R48, R61). -/
inductive AbortKind where
  | denied
  | stopped
  | noAperture
  | permission
  | noPage
  | walkError
  | memoryError
  | protocol
  deriving DecidableEq, Repr

/-- What a response says (R48). -/
inductive LinkReply where
  | accept
  | data (bytes : List Byte)
  | retry (reason : RetryReason)
  | abort (kind : AbortKind)
  deriving DecidableEq, Repr

/-- A response on the device link (R48). -/
structure LinkResponse where
  requester : RequesterId
  tag : LinkTag
  reply : LinkReply
  deriving DecidableEq, Repr

/-! ## Translation cache and walks (R67, R87) -/

/-- A translation cache entry (R67). -/
structure TcEntry where
  aperture : ApIndex
  generation : Generation
  page : Nat
  frame : Frame
  readable : Bool
  writable : Bool
  pinned : Bool
  deriving DecidableEq, Repr

/-- The state of a walk record, with the port tag present in ISSUED (R87). -/
inductive WalkState where
  | waitingTag
  | issued (tag : PortTagId)
  deriving DecidableEq, Repr

/-- A walk record (R87). -/
structure Walk where
  aperture : ApIndex
  generation : Generation
  page : Nat
  entryAddr : MemAddr
  state : WalkState
  orphaned : Bool
  /-- Parked transactions, in order of arrival. -/
  waiters : List Request
  /-- The slot of the TC_PRELOAD that waits on the walk, with its pin request. -/
  preload : Option (SlotId × Bool)
  deriving DecidableEq, Repr

/-! ## Posted writes and reads (R106, R122) -/

/-- A set of command slots: the drain marks an entry bears (R136). -/
abbrev MarkSet := Vector Bool 8

/-- The state of a posted write, with the port tag present in ISSUED (R106). -/
inductive WriteState where
  | queued
  | issued (tag : PortTagId)
  deriving DecidableEq, Repr

/-- A posted write queue entry (R106). -/
structure PostedWrite where
  /-- The model's own identity of the entry (log 6). -/
  seq : Nat
  requester : RequesterId
  aperture : ApIndex
  linkAddr : LinkAddr
  length : Nat
  memAddr : MemAddr
  enables : BitVec 64
  data : List Byte
  state : WriteState
  marks : MarkSet
  deriving DecidableEq, Repr

/-- The state of a read, with the port tag present in ISSUED (R122). -/
inductive ReadState where
  | orderWait
  | ready
  | issued (tag : PortTagId)
  deriving DecidableEq, Repr

/-- A read tracker entry (R122). -/
structure ReadEntry where
  /-- The model's own identity of the entry (log 6). -/
  seq : Nat
  requester : RequesterId
  tag : LinkTag
  aperture : ApIndex
  ordering : ReadOrder
  linkAddr : LinkAddr
  memAddr : MemAddr
  length : Nat
  state : ReadState
  discard : Bool
  marks : MarkSet
  /-- The holding writes, each by its `seq`. -/
  holding : List Nat
  deriving DecidableEq, Repr

/-! ## The host memory port (R154, R156, R157) -/

/-- The kind of a port request (R154). -/
inductive PortKind where
  | walk
  | write
  | read
  deriving DecidableEq, Repr

/-- The state of a port tag; a BUSY one counts its time since issue in microseconds (R154, R160). -/
inductive PortTag where
  | free
  | busy (kind : PortKind) (time : Nat)
  | quarantined
  deriving DecidableEq, Repr

/-- The contest memory (R157). -/
inductive Contest where
  | pwq
  | rdt
  deriving DecidableEq, Repr

/-- A message the part sends on the host memory port: a request under a port tag (R156), or the reset signal (R163). -/
inductive PortMessage where
  | walkRead (tag : PortTagId) (addr : MemAddr)
  | write (tag : PortTagId) (addr : MemAddr) (length : Nat) (enables : BitVec 64) (data : List Byte)
  | read (tag : PortTagId) (addr : MemAddr) (length : Nat)
  | resetSignal
  deriving DecidableEq, Repr

/-! ## Command slots (R165 to R171) -/

/-- The states of a slot (R165). -/
inductive SlotState where
  | free
  | pending
  | running
  | waiting
  | done
  | failed
  deriving DecidableEq, Repr

/-- The status codes (status code table of spec/10). -/
inductive Status where
  | none
  | badOp
  | badIndex
  | notFree
  | busy
  | alreadyRetiring
  | notLive
  | stale
  | overlap
  | range
  | align
  | state
  | pinLimit
  | walkBusy
  | notMapped
  | notCached
  | noPage
  | walkError
  deriving DecidableEq, Repr

/-- A command slot (R165). Word 7 is computed from the state, the status and the qualifier. -/
structure Slot where
  state : SlotState
  /-- Words 0 to 6. -/
  words : Vector Word 7
  status : Status
  qualifier : Qualifier
  deriving DecidableEq, Repr

/-- The commands that an operation code names (slot format table of spec/10). -/
inductive Command where
  | apSet
  | apRetire
  | apInvalidate
  | queryAperture
  | reqEnable
  | reqDisable
  | reqHalt
  | reqResume
  | faultClear
  | queryRequester
  | tcPreload
  | tcUnpin
  | queryTc
  | flush
  deriving DecidableEq, Repr

/-- The record a command concerns, by the value of the index field as written (R170). -/
inductive Target where
  | aperture (index : BitVec 8)
  | requester (index : BitVec 8)
  deriving DecidableEq, Repr

/-! ## The state -/

/-- Reasons to stop with a fault. The manual names no event that stops the part: a requester's fault is a record of the
requester table, a command's failure a status code, a refused write the cause SUBMIT_ERROR. So no meaning raises one, and
there is no constructor. -/
inductive Fault where
  deriving DecidableEq, Repr

/-- Reasons to refuse a command. -/
inductive Refusal where
  /-- Raised by an arm of `exec` whose command has no meaning yet. Safe: nothing can be proved of such a command. No arm
  raises it. -/
  | notModelled (mnemonic : String)
  deriving DecidableEq, Repr

/-- The state of the part, with the commands that wait. -/
structure State where
  /-- 64 aperture records (R1). -/
  apertures : Vector Aperture 64
  /-- Each requester's apertures, LIVE or RETIRING, by link base (R6). -/
  views : Vector (List ApIndex) 16
  /-- 16 requester records (R26). -/
  requesters : Vector Requester 16
  /-- The link tag table, 16 requesters by 4 tags (R49). -/
  linkTags : Vector (Vector TagState 4) 16
  /-- The translation cache in use order, most recently used first (R70). -/
  tc : List TcEntry
  /-- The walk records, oldest first; their waiters together are the park pool (R87, R89). -/
  walks : List Walk
  /-- The posted write queue, oldest first (R107). -/
  pwq : List PostedWrite
  /-- The read tracker, oldest first (R123). -/
  rdt : List ReadEntry
  /-- 8 port tags (R154). -/
  portTags : Vector PortTag 8
  /-- The contest memory (R157). -/
  contest : Contest
  /-- RESPONSE_LIMIT (R160, R175). -/
  responseLimit : BitVec 12
  /-- 8 command slots (R165). -/
  slots : Vector Slot 8
  /-- The submission list, earliest START first (R169). -/
  submission : List SlotId
  /-- SUBMIT_ERROR of INT_STATUS (R172). -/
  submitError : Bool
  /-- INT_ENABLE, bits as INT_STATUS (R172). -/
  intEnable : BitVec 3
  /-- LINK_ENABLE of CONTROL (R174). -/
  linkEnable : Bool
  /-- Whether the pin RESET_N is low (R176). -/
  resetLow : Bool
  /-- The responses sent on the device link, oldest first (log 7). -/
  linkOut : List LinkResponse
  /-- The messages sent on the host memory port, oldest first (log 7). -/
  portOut : List PortMessage
  /-- The model's own: the identity the next posted write or read gets (log 6). -/
  nextSeq : Nat
  /-- The model's own: the index of the next free value (log 5). -/
  freeCount : Nat
  /-- The commands that wait, first in first out. -/
  pending : List Instr
  deriving DecidableEq, Repr

/-- What a meaning answers. -/
abbrev Result := Host.Outcome State Fault Refusal

/-- No drain mark. -/
def MarkSet.empty : MarkSet := Vector.replicate 8 false

/-- The machine right after a part reset, RESET_N high (log 4): R5, R28, R49, R66, R86, R105, R121, R135, R163, R176. -/
def State.reset : State where
  apertures := Vector.replicate 64 { generation := 0, life := .free }
  views := Vector.replicate 16 []
  requesters := Vector.replicate 16 { state := .disabled, stopOnFault := false, firstFault := none, faultCount := 0 }
  linkTags := Vector.replicate 16 (Vector.replicate 4 .free)
  tc := []
  walks := []
  pwq := []
  rdt := []
  portTags := Vector.replicate 8 .free
  contest := .pwq
  responseLimit := 1000
  slots := Vector.replicate 8
    { state := .free, words := Vector.replicate 7 0, status := .none, qualifier := .error }
  submission := []
  submitError := false
  intEnable := 0
  linkEnable := false
  resetLow := false
  linkOut := []
  portOut := []
  nextSeq := 0
  freeCount := 0
  pending := []

end Sys2Proof.Machine
end

