-- ==== Sys2Proof/Machine/Operands.lean ====
section
/-! DEFINITION. The operand forms: the fields of a request, of an aperture's range, of a page map entry, of the slot words and
of the query reports (layout tables of spec/10). -/

namespace Sys2Proof.Machine

/-! ## Requests (R47, R53) -/

/-- The direction of a request. -/
def direction (q : Request) : Direction :=
  match q.payload with
  | .read => .read
  | .write _ _ => .write

/-- The form check: length 1 to 64 and a range within one 64-byte line (R47, R53). -/
def inOneLine (q : Request) : Bool :=
  decide (1 ≤ q.length.toNat) && decide (q.length.toNat ≤ 64) && decide (q.addr.toNat % 64 + q.length.toNat ≤ 64)

/-- The flags of the bytes of the line that lie in the request's range. -/
def rangeMask (q : Request) : BitVec 64 :=
  ((1#64 <<< q.length.toNat) - 1#64) <<< (q.addr.toNat % 64)

/-- The request as the part keeps it: byte enables outside the range are treated as clear (R47). -/
def maskEnables (q : Request) : Request :=
  match q.payload with
  | .read => q
  | .write en data => { q with payload := .write (en &&& rangeMask q) data }

/-! ## Aperture ranges and translation (R1, R7, R8, R11 to R15) -/

/-- The grant of an aperture record, present when it is not FREE. -/
def grantOf (a : Aperture) : Option Grant :=
  match a.life with
  | .free => none
  | .live g => some g
  | .retiring g => some g

/-- The grant of a LIVE aperture. -/
def liveGrant (a : Aperture) : Option Grant :=
  match a.life with
  | .live g => some g
  | _ => none

/-- One past the last link address of an aperture's range (R1). -/
def rangeEnd (g : Grant) : Nat := g.linkBase.toNat + g.pages * 4096

/-- Whether a link address lies in an aperture's range (R1). -/
def inRange (g : Grant) (a : LinkAddr) : Bool :=
  decide (g.linkBase.toNat ≤ a.toNat) && decide (a.toNat < rangeEnd g)

/-- Whether two ranges share a link address (R7). -/
def rangesOverlap (g h : Grant) : Bool :=
  decide (g.linkBase.toNat < rangeEnd h) && decide (h.linkBase.toNat < rangeEnd g)

/-- The link page of a link address (R12; spec/00, Conventions). -/
def linkPage (g : Grant) (a : LinkAddr) : Nat := (a.toNat - g.linkBase.toNat) / 4096

/-- The address of a page's page map entry (R12). -/
def entryAddrOf (mapBase : MemAddr) (page : Nat) : MemAddr := mapBase + BitVec.ofNat 40 (8 * page)

/-- Translation through a DIRECT aperture (R11). -/
def directAddr (memBase : MemAddr) (g : Grant) (a : LinkAddr) : MemAddr :=
  memBase + (a - g.linkBase).setWidth 40

/-- Translation through a page map entry's frame (R13). -/
def frameAddr (f : Frame) (a : LinkAddr) : MemAddr := f ++ a.extractLsb' 0 12

/-- The memory line of a memory address: rounded down to a multiple of 64 (R106, R122). -/
def memLine (m : MemAddr) : MemAddr := (m >>> 6) <<< 6

/-- Whether an access field permits a direction (R14). -/
def permits (x : Access) (d : Direction) : Bool :=
  match x, d with
  | .read, .read => true
  | .read, .write => false
  | .write, .read => false
  | .write, .write => true
  | .readWrite, _ => true

/-- Whether a page's indications permit a direction (R15). -/
def pagePermits (readable writable : Bool) (d : Direction) : Bool :=
  match d with
  | .read => readable
  | .write => writable

/-! ## The page map entry (R71 and its layout table) -/

/-- The contents of a page map entry that the part uses. -/
structure PageEntry where
  valid : Bool
  readable : Bool
  writable : Bool
  frame : Frame
  deriving DecidableEq, Repr

/-- Bytes as one number, the least significant byte first (spec/00, Byte order). -/
def littleEndian : List Byte → Nat
  | [] => 0
  | b :: bs => b.toNat + 256 * littleEndian bs

/-- The page map entry in the 8 bytes of a walk's answer. -/
def pageEntryOf (bytes : List Byte) : PageEntry :=
  let e : BitVec 64 := BitVec.ofNat 64 (littleEndian bytes)
  { valid := e.getLsbD 0, readable := e.getLsbD 1, writable := e.getLsbD 2, frame := e.extractLsb' 12 28 }

/-! ## Fields of word 0 (Slot words 0 and 7) -/

/-- Word k of a slot. -/
def slotWord (sl : Slot) (k : Fin 7) : Word := sl.words.get k

/-- The command an operation code names (slot format table); any other code names none (R171). -/
def commandOf (code : BitVec 8) : Option Command :=
  match code.toNat with
  | 0x01 => some .apSet
  | 0x02 => some .apRetire
  | 0x03 => some .apInvalidate
  | 0x04 => some .queryAperture
  | 0x10 => some .reqEnable
  | 0x11 => some .reqDisable
  | 0x12 => some .reqHalt
  | 0x13 => some .reqResume
  | 0x14 => some .faultClear
  | 0x15 => some .queryRequester
  | 0x20 => some .tcPreload
  | 0x21 => some .tcUnpin
  | 0x22 => some .queryTc
  | 0x30 => some .flush
  | _ => none

/-- The command in a slot. -/
def slotCommand (sl : Slot) : Option Command := commandOf ((slotWord sl 0).extractLsb' 0 8)

/-- The index field as written. -/
def slotIndex (sl : Slot) : BitVec 8 := (slotWord sl 0).extractLsb' 8 8

/-- The index field as an aperture index, 0 to 63. -/
def slotAperture (sl : Slot) : Option ApIndex :=
  if h : (slotIndex sl).toNat < 64 then some ⟨(slotIndex sl).toNat, h⟩ else none

/-- The index field as a requester number, 0 to 15. -/
def slotRequester (sl : Slot) : Option RequesterId :=
  if h : (slotIndex sl).toNat < 16 then some ⟨(slotIndex sl).toNat, h⟩ else none

/-- The owner field as a requester number, 0 to 15. -/
def slotOwner (sl : Slot) : Option RequesterId :=
  let o : BitVec 5 := (slotWord sl 0).extractLsb' 16 5
  if h : o.toNat < 16 then some ⟨o.toNat, h⟩ else none

/-- The mode field: 1 DIRECT, 2 MAPPED. -/
def slotMode (sl : Slot) : BitVec 2 := (slotWord sl 0).extractLsb' 21 2

/-- The access an access field names: 1 READ, 2 WRITE, 3 READ_WRITE. -/
def accessOf (code : BitVec 2) : Option Access :=
  match code.toNat with
  | 1 => some .read
  | 2 => some .write
  | 3 => some .readWrite
  | _ => none

/-- The access field of a slot. -/
def slotAccess (sl : Slot) : Option Access := accessOf ((slotWord sl 0).extractLsb' 23 2)

/-- The ordering an ordering field names: 1 STRICT, 2 LINE. -/
def orderingOf (code : BitVec 2) : Option ReadOrder :=
  match code.toNat with
  | 1 => some .strict
  | 2 => some .line
  | _ => none

/-- The ordering field of a slot. -/
def slotOrdering (sl : Slot) : Option ReadOrder := orderingOf ((slotWord sl 0).extractLsb' 25 2)

/-- The flag of word 0: pin request of TC_PRELOAD, stop-on-fault of REQ_ENABLE. -/
def slotFlag (sl : Slot) : Bool := (slotWord sl 0).getLsbD 27

/-- The notify flag of word 0. -/
def slotNotify (sl : Slot) : Bool := (slotWord sl 0).getLsbD 31

/-- The record a slot's command concerns (R170). -/
def slotTarget (sl : Slot) : Option Target :=
  match slotCommand sl with
  | some .apSet | some .apRetire | some .apInvalidate | some .tcPreload | some .tcUnpin | some .queryAperture =>
    some (.aperture (slotIndex sl))
  | some .reqEnable | some .reqDisable | some .reqHalt | some .reqResume | some .faultClear | some .queryRequester =>
    some (.requester (slotIndex sl))
  | some .flush | some .queryTc | none => none

/-! ## Operands of AP_SET (R18 to R21, R177) -/

/-- The base operand: bits 0 to 31 in word 3, bits 32 to 39 in bits 0 to 7 of word 4. -/
def slotBase (sl : Slot) : MemAddr := (slotWord sl 4).extractLsb' 0 8 ++ slotWord sl 3

/-- Check 3 of AP_SET fails: a misaligned link base, or a base misaligned for the mode the operand names (R20). -/
def misaligned (sl : Slot) : Bool :=
  decide ((slotWord sl 1).toNat % 4096 ≠ 0) ||
  (decide (slotMode sl = 1#2) && decide ((slotBase sl).toNat % 4096 ≠ 0)) ||
  (decide (slotMode sl = 2#2) && decide ((slotBase sl).toNat % 8 ≠ 0))

/-- The base a mode operand and a base operand name within the bounds of R21: none where the mode names nothing or the region
or page map would pass the top of host memory addressing. -/
def baseInBounds (sl : Slot) : Option ApBase :=
  if slotMode sl = 1#2 then
    if (slotBase sl).toNat + (slotWord sl 2).toNat * 4096 ≤ 2 ^ 40 then some (.direct (slotBase sl)) else none
  else if slotMode sl = 2#2 then
    if (slotBase sl).toNat + 8 * (slotWord sl 2).toNat ≤ 2 ^ 40 then some (.mapped (slotBase sl)) else none
  else none

/-- Whether the page count and the link range are those R21 lets pass. -/
def pagesInBounds (sl : Slot) : Bool :=
  decide (1 ≤ (slotWord sl 2).toNat) && decide ((slotWord sl 2).toNat ≤ 65536) &&
  decide ((slotWord sl 1).toNat + (slotWord sl 2).toNat * 4096 ≤ 2 ^ 32)

/-- The grant that an AP_SET's operands describe, or none where check 4 fails (R21). -/
def grantOperands (sl : Slot) (owner : RequesterId) : Option Grant :=
  match slotAccess sl, slotOrdering sl, baseInBounds sl with
  | some x, some o, some b =>
    if pagesInBounds sl then
      some { owner := owner, linkBase := slotWord sl 1, pages := (slotWord sl 2).toNat, base := b, access := x, ordering := o }
    else none
  | _, _, _ => none

/-- Whether the expected generation of an AP_RETIRE agrees: bit 16 ANY, or bits 0 to 15 equal (R140). -/
def generationAgrees (sl : Slot) (gen : Generation) : Bool :=
  (slotWord sl 1).getLsbD 16 || decide ((slotWord sl 1).extractLsb' 0 16 = gen)

/-- Whether a page lies in the range of an AP_INVALIDATE, first page in word 1 and count in word 2 (R145, R177). -/
def inPages (sl : Slot) (page : Nat) : Bool :=
  decide ((slotWord sl 1).toNat ≤ page) && decide (page < (slotWord sl 1).toNat + (slotWord sl 2).toNat)

/-! ## Codes of the report layouts and of word 7 -/

/-- A field of a word: a value placed at a bit position. -/
def fieldAt {w : Nat} (pos : Nat) (x : BitVec w) : Word := x.setWidth 32 <<< pos

/-- A one-bit field: 1 for yes, set or present (R177). -/
def bitAt (pos : Nat) (b : Bool) : Word := fieldAt pos (BitVec.ofBool b)

/-- A number as a field. -/
def natAt (pos n : Nat) : Word := fieldAt pos (BitVec.ofNat 32 n)

/-- State codes of a slot (Slot words 0 and 7). -/
def slotStateCode : SlotState → Nat
  | .free => 0
  | .pending => 1
  | .running => 2
  | .waiting => 3
  | .done => 4
  | .failed => 5

/-- Status codes (status code table). -/
def statusCode : Status → Nat
  | .none => 0
  | .badOp => 1
  | .badIndex => 2
  | .notFree => 3
  | .busy => 4
  | .alreadyRetiring => 5
  | .notLive => 6
  | .stale => 7
  | .overlap => 8
  | .range => 9
  | .align => 10
  | .state => 11
  | .pinLimit => 12
  | .walkBusy => 13
  | .notMapped => 14
  | .notCached => 15
  | .noPage => 16
  | .walkError => 17

/-- 0 ERROR, 1 TIMEOUT. -/
def qualifierBit : Qualifier → Bool
  | .error => false
  | .timeout => true

/-- 0 READ, 1 WRITE. -/
def directionBit : Direction → Bool
  | .read => false
  | .write => true

/-- Access codes of word 0. -/
def accessCode : Access → Nat
  | .read => 1
  | .write => 2
  | .readWrite => 3

/-- Ordering codes of word 0. -/
def orderingCode : ReadOrder → Nat
  | .strict => 1
  | .line => 2

/-- Mode codes of word 0. -/
def modeCode : ApBase → Nat
  | .direct _ => 1
  | .mapped _ => 2

/-- The memory base position of a report: zero for a MAPPED aperture (R25). -/
def memBaseOf : ApBase → MemAddr
  | .direct m => m
  | .mapped _ => 0

/-- The page map base position of a report: zero for a DIRECT aperture (R25). -/
def mapBaseOf : ApBase → MemAddr
  | .direct _ => 0
  | .mapped m => m

/-- State codes of a QUERY_APERTURE report. -/
def lifeCode : ApLife → Nat
  | .free => 0
  | .live _ => 1
  | .retiring _ => 2

/-- State codes of a QUERY_REQUESTER report. -/
def requesterStateCode : RequesterState → Nat
  | .disabled => 0
  | .enabled => 1
  | .halting => 2
  | .halted => 3
  | .stopped => 4

/-! ## Fields of a fault record (R33) -/

/-- Fault kind codes of a QUERY_REQUESTER report. -/
def faultKindCode : FaultRecord → Nat
  | .protocol _ _ => 1
  | .noAperture _ _ => 2
  | .permission _ _ _ => 3
  | .noPage _ _ _ _ => 4
  | .walkError _ _ _ _ _ => 5
  | .writeLost _ _ _ => 6
  | .memoryError _ _ _ => 7

/-- The qualifier, present for WALK_ERROR, WRITE_LOST and MEMORY_ERROR. -/
def faultQualifier : FaultRecord → Option Qualifier
  | .walkError q _ _ _ _ => some q
  | .writeLost q _ _ => some q
  | .memoryError q _ _ => some q
  | _ => none

/-- The direction, present for every kind. -/
def faultDirection : FaultRecord → Direction
  | .protocol d _ => d
  | .noAperture d _ => d
  | .permission d _ _ => d
  | .noPage d _ _ _ => d
  | .walkError _ d _ _ _ => d
  | .writeLost _ _ _ => .write
  | .memoryError _ _ _ => .read

/-- The link address, present for every kind. -/
def faultAddr : FaultRecord → LinkAddr
  | .protocol _ a => a
  | .noAperture _ a => a
  | .permission _ a _ => a
  | .noPage _ a _ _ => a
  | .walkError _ _ a _ _ => a
  | .writeLost _ a _ => a
  | .memoryError _ a _ => a

/-- The aperture index, present for every kind but NO_APERTURE and PROTOCOL. -/
def faultAperture : FaultRecord → Option ApIndex
  | .protocol _ _ => none
  | .noAperture _ _ => none
  | .permission _ _ ap => some ap
  | .noPage _ _ ap _ => some ap
  | .walkError _ _ _ ap _ => some ap
  | .writeLost _ _ ap => some ap
  | .memoryError _ _ ap => some ap

/-- The page map entry address, present for NO_PAGE and WALK_ERROR. -/
def faultEntry : FaultRecord → Option MemAddr
  | .noPage _ _ _ e => some e
  | .walkError _ _ _ _ e => some e
  | _ => none

/-! ## Query reports, words 1 to 6 (Query reports table)

DESIGN CHOICE (log 17): a bit of a report word that the table does not name reads 0. -/

/-- Six report words. -/
structure Report where
  w1 : Word
  w2 : Word
  w3 : Word
  w4 : Word
  w5 : Word
  w6 : Word
  deriving DecidableEq, Repr

/-- The report of QUERY_APERTURE (R25). The table leaves word 1 bits 13 to 15, word 3 bits 17 to 23 and 29 to 31 and word 6 bits 16 to
31 without a name; that they read 0 is the model's choice (DESIGN CHOICE, log 17). -/
def apertureReport (a : Aperture) (inFlight : Nat) : Report :=
  match grantOf a with
  | none => { w1 := fieldAt 16 a.generation, w2 := 0, w3 := natAt 24 inFlight, w4 := 0, w5 := 0, w6 := 0 }
  | some g =>
    { w1 := natAt 0 (lifeCode a.life) ||| natAt 2 (modeCode g.base) ||| natAt 4 (accessCode g.access) |||
        natAt 6 (orderingCode g.ordering) ||| natAt 8 g.owner.val ||| fieldAt 16 a.generation
      w2 := g.linkBase
      w3 := natAt 0 g.pages ||| natAt 24 inFlight
      w4 := (memBaseOf g.base).extractLsb' 0 32
      w5 := (mapBaseOf g.base).extractLsb' 0 32
      w6 := fieldAt 0 ((memBaseOf g.base).extractLsb' 32 8) ||| fieldAt 8 ((mapBaseOf g.base).extractLsb' 32 8) }

/-- The report of QUERY_REQUESTER (R46): each absent field is zero with its presence indication clear. The table leaves word 1 bits 3,
5 to 7 and 31 and word 4 bits 8 to 31 without a name; that they read 0 is the model's choice (DESIGN CHOICE, log 17). -/
def requesterReport (r : Requester) : Report :=
  let head : Word := natAt 0 (requesterStateCode r.state) ||| bitAt 4 r.stopOnFault ||| natAt 8 r.faultCount
  match r.firstFault with
  | none => { w1 := head, w2 := 0, w3 := 0, w4 := 0, w5 := 0, w6 := 0 }
  | some f =>
    let entry : MemAddr := (faultEntry f).getD 0
    { w1 := head ||| natAt 16 (faultKindCode f) ||| bitAt 20 (directionBit (faultDirection f)) |||
        bitAt 21 (((faultQualifier f).map qualifierBit).getD false) ||| bitAt 22 (faultQualifier f).isSome |||
        bitAt 23 (faultAperture f).isSome ||| bitAt 24 (faultEntry f).isSome |||
        natAt 25 (((faultAperture f).map Fin.val).getD 0)
      w2 := faultAddr f
      w3 := entry.extractLsb' 0 32
      w4 := fieldAt 0 (entry.extractLsb' 32 8)
      w5 := 0
      w6 := 0 }

/-- The report of QUERY_TC for the entry at a position, or NONE (R85). The table leaves word 1 bits 6, 7, 13 to 15, 20 to 23, 30 and 31
and word 3 bits 28 to 31 without a name; that they read 0 is the model's choice (DESIGN CHOICE, log 17). -/
def cacheReport (entries pins : Nat) (e : Option TcEntry) : Report :=
  let head : Word := natAt 0 entries ||| natAt 8 pins
  match e with
  | none => { w1 := head ||| bitAt 16 true, w2 := 0, w3 := 0, w4 := 0, w5 := 0, w6 := 0 }
  | some e =>
    { w1 := head ||| bitAt 17 e.pinned ||| bitAt 18 e.readable ||| bitAt 19 e.writable ||| natAt 24 e.aperture.val
      w2 := fieldAt 0 e.generation ||| natAt 16 e.page
      w3 := fieldAt 0 e.frame
      w4 := 0
      w5 := 0
      w6 := 0 }

/-- A slot with a report in words 1 to 6; the part never writes word 0 but at part reset (R166). -/
def withReport (sl : Slot) (r : Report) : Slot :=
  { sl with words := #v[slotWord sl 0, r.w1, r.w2, r.w3, r.w4, r.w5, r.w6] }

/-- A slot with one word replaced. -/
def withWord (sl : Slot) (k : Fin 7) (v : Word) : Slot := { sl with words := sl.words.set k.val v k.isLt }

/-! ## Addresses of the control window (Register map) -/

/-- What the register map lists at a word of the window. -/
inductive WindowWord where
  | id
  | control
  | intStatus
  | intEnable
  | responseLimit
  | slot (n : SlotId) (k : Fin 8)
  | unlisted
  deriving DecidableEq, Repr

/-- The word of the window that holds a byte address: slot n's word k lies at 0x100 + 32 n + 4 k. -/
def windowAt (addr : Nat) : WindowWord :=
  let word := addr / 4
  if word = 0 then .id
  else if word = 1 then .control
  else if word = 2 then .intStatus
  else if word = 3 then .intEnable
  else if word = 4 then .responseLimit
  else if 64 ≤ word ∧ word < 128 then .slot (Fin.ofNat 8 ((word - 64) / 8)) (Fin.ofNat 8 ((word - 64) % 8))
  else .unlisted

/-- Whether the register map lists the word that holds a byte address. -/
def listedAt (addr : Nat) : Bool := decide (windowAt addr ≠ .unlisted)

end Sys2Proof.Machine
end

