-- ==== Sys2Proof/Machine/Flags.lean ====
section
/-! DEFINITION. The interrupt causes, INT_N, and what the control window reads (R37, R165, R172 to R178; log 16). -/

namespace Sys2Proof.Machine

/-- The slots of the window. -/
def allSlots : List SlotId := [0, 1, 2, 3, 4, 5, 6, 7]

/-- The requesters of the link. -/
def allRequesters : List RequesterId := [0, 1, 2, 3, 4, 5, 6, 7, 8, 9, 10, 11, 12, 13, 14, 15]

/-- Whether a slot is DONE or FAILED. -/
def ended (sl : Slot) : Bool := decide (sl.state = .done) || decide (sl.state = .failed)

/-- CMD_NOTIFY: some slot is DONE or FAILED with its notify flag set (R172). -/
def cmdNotify (s : State) : Bool := allSlots.any fun n => ended (s.slots.get n) && slotNotify (s.slots.get n)

/-- FAULT: some requester holds a first fault (R37). -/
def faultPending (s : State) : Bool := allRequesters.any fun r => (s.requesters.get r).firstFault.isSome

/-- The causes of INT_STATUS: bit 0 CMD_NOTIFY, bit 1 FAULT, bit 2 SUBMIT_ERROR. -/
def intStatus (s : State) : BitVec 3 :=
  BitVec.ofBool s.submitError ++ BitVec.ofBool (faultPending s) ++ BitVec.ofBool (cmdNotify s)

/-- INT_N is asserted, low, while some cause is pending and its enable is set (R172). -/
def intNLow (s : State) : Bool := decide (intStatus s &&& s.intEnable ≠ 0)

/-- Word 7 of a slot: state, status code and qualifier, 0 in every other bit (R165, R177). -/
def word7 (sl : Slot) : Word :=
  natAt 0 (slotStateCode sl.state) ||| natAt 8 (statusCode sl.status) ||| bitAt 16 (qualifierBit sl.qualifier)

/-- What a whole-word read of the window returns at a word (R165, R166, R174 to R176); while RESET_N is low it is 0. -/
def readAt (s : State) (w : WindowWord) : Word :=
  if s.resetLow then 0
  else
    match w with
    | .id => Config.idWord
    | .control => bitAt 0 s.linkEnable
    | .intStatus => fieldAt 0 (intStatus s)
    | .intEnable => fieldAt 0 s.intEnable
    | .responseLimit => fieldAt 0 s.responseLimit
    | .slot n k => if h : k.val < 7 then slotWord (s.slots.get n) ⟨k.val, h⟩ else word7 (s.slots.get n)
    | .unlisted => 0

/-- A whole-word read of the word of the window that holds a byte address. -/
def windowWord (s : State) (addr : Nat) : Word := readAt s (windowAt addr)

/-- What a read returns for one byte: the corresponding byte of the word that contains it, least significant byte at the
lowest address (R178). -/
def windowByte (s : State) (addr : Nat) : Byte := (windowWord s addr).extractLsb' (8 * (addr % 4)) 8

end Sys2Proof.Machine
end

