-- ==== Sys2Proof/Machine/Ops.lean ====
section
/-! DEFINITION. The named operations over the part's records and collections, shared by the meanings of the commands: one for
each thing the rules speak of (send a response, capture a fault, release parked transactions, mark, complete, depart, install,
issue). -/

namespace Sys2Proof.Machine

/-! ## Lists and tables -/

/-- The list with its first entry that meets `p` changed by `f`. -/
def updateFirst {α : Type} (p : α → Bool) (f : α → α) : List α → List α
  | [] => []
  | x :: xs => if p x then f x :: xs else x :: updateFirst p f xs

/-- The list without its last entry that meets `p`. -/
def dropLast {α : Type} (p : α → Bool) (l : List α) : List α := (l.reverse.eraseP p).reverse

/-- A table with every entry changed by `f`. -/
def mapTable {α β : Type} {n : Nat} (f : α → β) (v : Vector α n) : Vector β n := ⟨⟨v.toList.map f⟩, by simp⟩

/-! ## Single records -/

/-- One link tag takes a state (R49). -/
def State.setLinkTag (s : State) (r : RequesterId) (t : LinkTag) (x : TagState) : State :=
  { s with linkTags := s.linkTags.set r.val ((s.linkTags.get r).set t.val x t.isLt) r.isLt }

/-- One aperture record is replaced. -/
def State.setAperture (s : State) (a : ApIndex) (x : Aperture) : State :=
  { s with apertures := s.apertures.set a.val x a.isLt }

/-- One requester's view is replaced. -/
def State.setView (s : State) (r : RequesterId) (v : List ApIndex) : State :=
  { s with views := s.views.set r.val v r.isLt }

/-- One requester record is replaced. -/
def State.setRequester (s : State) (r : RequesterId) (x : Requester) : State :=
  { s with requesters := s.requesters.set r.val x r.isLt }

/-- One port tag takes a state (R154). -/
def State.setPortTag (s : State) (t : PortTagId) (x : PortTag) : State :=
  { s with portTags := s.portTags.set t.val x t.isLt }

/-- One slot is replaced. -/
def State.setSlot (s : State) (n : SlotId) (x : Slot) : State :=
  { s with slots := s.slots.set n.val x n.isLt }

/-- The state of a link tag. -/
def State.linkTag (s : State) (r : RequesterId) (t : LinkTag) : TagState := (s.linkTags.get r).get t

/-! ## Responses and faults -/

/-- A response is sent on the device link and its tag becomes FREE, in one event (R48, R49). -/
def State.respond (s : State) (r : RequesterId) (t : LinkTag) (x : LinkReply) : State :=
  { s.setLinkTag r t .free with linkOut := s.linkOut ++ [{ requester := r, tag := t, reply := x }] }

/-- The same response is sent to several requests, in order. -/
def State.respondAll (s : State) : List Request → LinkReply → State
  | [], _ => s
  | p :: ps, x => (s.respond p.requester p.tag x).respondAll ps x

/-- The parked transactions of a requester, in the walks' order of start and within each walk in arrival order (R90). -/
def State.parkedOf (s : State) (r : RequesterId) : List Request :=
  s.walks.flatMap fun w => w.waiters.filter fun p => decide (p.requester = r)

/-- The number of parked transactions (R89). -/
def State.parkedCount (s : State) : Nat := (s.walks.map fun w => w.waiters.length).sum

/-- The release of a requester's parked transactions: each is removed from its walk and from the park pool and answered; the
walks go on (R31, R103). -/
def State.release (s : State) (r : RequesterId) (x : LinkReply) : State :=
  { s with walks := s.walks.map fun (w : Walk) => { w with waiters := w.waiters.filter fun p => decide (p.requester ≠ r) } }.respondAll
    (s.parkedOf r) x

/-- A requester record after one more captured fault: the first one is kept in full and the rest are counted, up to 255 (R34). -/
def recordFault (q : Requester) (f : FaultRecord) : Requester :=
  match q.firstFault with
  | none => { q with firstFault := some f, faultCount := 1 }
  | some _ => { q with faultCount := min (q.faultCount + 1) Config.faultCountMax }

/-- The capture of a fault on a requester (R34); one that finds it ENABLED with stop-on-fault yes stops it and releases its
parked transactions with ABORT STOPPED (R36, R31; log 11). -/
def State.capture (s : State) (r : RequesterId) (f : FaultRecord) : State :=
  let q := s.requesters.get r
  if q.state = .enabled ∧ q.stopOnFault = true then
    (s.setRequester r { recordFault q f with state := .stopped }).release r (.abort .stopped)
  else s.setRequester r (recordFault q f)

/-! ## Aperture lookup and views (R6 to R8, R22, R23) -/

/-- Lookup: the LIVE aperture of the requester's view whose range holds the link address, with its grant; none is NO_APERTURE
(R8). -/
def State.lookup (s : State) (r : RequesterId) (a : LinkAddr) : Option (ApIndex × Grant) :=
  (s.views.get r).findSome? fun i =>
    match liveGrant (s.apertures.get i) with
    | some g => if inRange g a then some (i, g) else none
    | none => none

/-- The link base by which a view is ordered. -/
def State.viewBase (s : State) (i : ApIndex) : Nat :=
  match grantOf (s.apertures.get i) with
  | some g => g.linkBase.toNat
  | none => 0

/-- A new aperture joins a view at the position of its link base (R6, R23). -/
def State.insertByBase (s : State) (base : Nat) (i : ApIndex) : List ApIndex → List ApIndex
  | [] => [i]
  | j :: js => if base < s.viewBase j then i :: j :: js else j :: s.insertByBase base i js

/-- Whether a grant's range overlaps a range of its owner's view (R22). -/
def State.overlapsView (s : State) (g : Grant) : Bool :=
  (s.views.get g.owner).any fun i =>
    match grantOf (s.apertures.get i) with
    | some h => rangesOverlap g h
    | none => false

/-- The in-flight count of an aperture (R17). -/
def State.inFlight (s : State) (a : ApIndex) : Nat :=
  s.pwq.countP (fun e => decide (e.aperture = a)) + s.rdt.countP (fun d => decide (d.aperture = a))

/-! ## The translation cache (R67 to R77) -/

/-- Whether a cache entry is the one for an aperture, a generation and a page (R72). -/
def TcEntry.isFor (a : ApIndex) (gen : Generation) (page : Nat) (e : TcEntry) : Bool :=
  decide (e.aperture = a) && decide (e.generation = gen) && decide (e.page = page)

/-- The number of pinned entries (R68). -/
def State.pins (s : State) : Nat := s.tc.countP fun e => e.pinned

/-- An entry of the cache moves to the head of the use-order list (R70). -/
def toHead (p : TcEntry → Bool) (l : List TcEntry) : List TcEntry :=
  match l.find? p with
  | some e => e :: l.eraseP p
  | none => l

/-- Room for one more entry: a full cache first loses its unpinned entry furthest from the head (R75). -/
def makeRoom (l : List TcEntry) : List TcEntry :=
  if Config.tcEntries ≤ l.length then dropLast (fun e => !e.pinned) l else l

/-- Whether an installation for a walk pins its entry: the walk carries a pin request and fewer than 24 entries are pinned
(R74, R76). -/
def State.pinGranted (s : State) (w : Walk) : Bool :=
  match w.preload with
  | some (_, true) => decide (s.pins < Config.tcPins)
  | _ => false

/-- The installation of a walk's valid page map entry at the head of the use-order list (R74). -/
def State.install (s : State) (w : Walk) (pe : PageEntry) : State :=
  { s with tc :=
      { aperture := w.aperture, generation := w.generation, page := w.page, frame := pe.frame,
        readable := pe.readable, writable := pe.writable, pinned := s.pinGranted w } :: makeRoom s.tc }

/-- The drop of every cache entry that meets `p`, pinned or not (R77). -/
def State.dropEntries (s : State) (p : TcEntry → Bool) : State := { s with tc := s.tc.filter fun e => !p e }

/-! ## Walks (R87 to R93, R101) -/

/-- Whether a walk is one that a miss or a preload on the page joins: not orphaned, same aperture, generation and page (R91). -/
def Walk.isFor (a : ApIndex) (gen : Generation) (page : Nat) (w : Walk) : Bool :=
  !w.orphaned && decide (w.aperture = a) && decide (w.generation = gen) && decide (w.page = page)

/-- Whether a walk holds a port tag. -/
def Walk.holdsTag (t : PortTagId) (w : Walk) : Bool := decide (w.state = .issued t)

/-- A new walk record: WAITING_TAG, not orphaned, no waiters and no preload waiter (R91). -/
def newWalk (a : ApIndex) (gen : Generation) (page : Nat) (mapBase : MemAddr) : Walk :=
  { aperture := a, generation := gen, page := page, entryAddr := entryAddrOf mapBase page, state := .waitingTag,
    orphaned := false, waiters := [], preload := none }

/-- A request that has joined a walk is parked at the end of its waiters while the pool has a place, or is answered RETRY
PARK_FULL (R92). -/
def State.park (s : State) (a : ApIndex) (gen : Generation) (page : Nat) (q : Request) : State :=
  if s.parkedCount < Config.parkPlaces then
    { s with walks := updateFirst (Walk.isFor a gen page) (fun (w : Walk) => { w with waiters := w.waiters ++ [q] }) s.walks }
  else s.respond q.requester q.tag (.retry .parkFull)

/-- A miss reaches the walker: the request joins the walk for its page or starts one in a free slot, or is answered RETRY
WALK_BUSY (R58, R91). -/
def State.miss (s : State) (a : ApIndex) (gen : Generation) (page : Nat) (mapBase : MemAddr) (q : Request) : State :=
  if s.walks.any (Walk.isFor a gen page) then s.park a gen page q
  else if s.walks.length < Config.walkSlots then
    { s with walks := s.walks ++ [newWalk a gen page mapBase] }.park a gen page q
  else s.respond q.requester q.tag (.retry .walkBusy)

/-- What an orphaning take leaves of a walk in its scope: nothing in WAITING_TAG; in ISSUED the record, orphaned, with no
waiters and no preload waiter (R101, R93). -/
def orphanWalk (w : Walk) : Option Walk :=
  match w.state with
  | .waitingTag => none
  | .issued _ => some { w with orphaned := true, waiters := [], preload := none }

/-- The orphaning of every walk that meets `p`: the waiters are answered in the walks' order of start and in arrival order,
and leave the park pool (R101). -/
def State.orphan (s : State) (p : Walk → Bool) (x : LinkReply) : State :=
  { s with walks := s.walks.filterMap fun w => if p w then orphanWalk w else some w }.respondAll
    ((s.walks.filter p).flatMap Walk.waiters) x

/-! ## Entering the queue and the tracker (R57, R97, R106, R108, R109, R122, R124, R125) -/

/-- Whether a posted write present at a read's creation holds the read (R125). -/
def holdsRead (ord : ReadOrder) (r : RequesterId) (m : MemAddr) (e : PostedWrite) : Bool :=
  match ord with
  | .strict => decide (e.requester = r)
  | .line => decide (e.requester = r) && decide (memLine e.memAddr = memLine m)

/-- The writes that hold a read created now. -/
def State.holdingWrites (s : State) (ord : ReadOrder) (r : RequesterId) (m : MemAddr) : List Nat :=
  (s.pwq.filter (holdsRead ord r m)).map fun e => e.seq

/-- The queue entry that an accepted write makes: QUEUED, with an empty mark set (R106, R108). -/
def newWrite (seq : Nat) (a : ApIndex) (m : MemAddr) (q : Request) (en : BitVec 64) (data : List Byte) : PostedWrite where
  seq := seq
  requester := q.requester
  aperture := a
  linkAddr := q.addr
  length := q.length.toNat
  memAddr := m
  enables := en
  data := data
  state := .queued
  marks := MarkSet.empty

/-- A posted write entry is made at the tail of the queue (R107, R108). -/
def State.postWrite (s : State) (a : ApIndex) (m : MemAddr) (q : Request) (en : BitVec 64) (data : List Byte) : State :=
  { s with pwq := s.pwq ++ [newWrite s.nextSeq a m q en data], nextSeq := s.nextSeq + 1 }

/-- The tracker entry that a translated READ makes: in ORDER_WAIT while posted writes hold it and READY otherwise, its discard
flag clear and its mark set empty (R122, R124). -/
def newRead (seq : Nat) (a : ApIndex) (ord : ReadOrder) (m : MemAddr) (q : Request) (hold : List Nat) : ReadEntry where
  seq := seq
  requester := q.requester
  tag := q.tag
  aperture := a
  ordering := ord
  linkAddr := q.addr
  memAddr := m
  length := q.length.toNat
  state := if hold = [] then .ready else .orderWait
  discard := false
  marks := MarkSet.empty
  holding := hold

/-- A read tracker entry is made at the tail, its holding writes fixed (R123 to R125). -/
def State.trackRead (s : State) (a : ApIndex) (ord : ReadOrder) (m : MemAddr) (q : Request) : State :=
  { s with rdt := s.rdt ++ [newRead s.nextSeq a ord m q (s.holdingWrites ord q.requester m)], nextSeq := s.nextSeq + 1 }

/-- The capacity check of a translated request (R57): a WRITE is accepted or told QUEUE_FULL, a READ is tracked, holding its
tag, or told TRACKER_FULL. -/
def State.enter (s : State) (a : ApIndex) (ord : ReadOrder) (m : MemAddr) (q : Request) : State :=
  match q.payload with
  | .write en data =>
    if s.pwq.length < Config.writeEntries then (s.postWrite a m q en data).respond q.requester q.tag .accept
    else s.respond q.requester q.tag (.retry .queueFull)
  | .read =>
    if s.rdt.length < Config.readEntries then s.trackRead a ord m q
    else s.respond q.requester q.tag (.retry .trackerFull)

/-! ## Slots and the submission list (R165 to R171) -/

/-- A slot ends: its state, status and qualifier change and it leaves the submission list, in one event (R169, R171; log 14). -/
def State.endSlot (s : State) (n : SlotId) (st : SlotState) (code : Status) (q : Qualifier) : State :=
  { s.setSlot n { s.slots.get n with state := st, status := code, qualifier := q } with
    submission := s.submission.filter fun m => decide (m ≠ n) }

/-- A command ends DONE: status NONE, qualifier ERROR (R165). -/
def State.doneSlot (s : State) (n : SlotId) : State := s.endSlot n .done .none .error

/-- A command ends FAILED with a status code (R165, R171). -/
def State.failSlot (s : State) (n : SlotId) (code : Status) : State := s.endSlot n .failed code .error

/-- The part writes one word of a slot (R166). -/
def State.writeWord (s : State) (n : SlotId) (k : Fin 7) (v : Word) : State := s.setSlot n (withWord (s.slots.get n) k v)

/-- A slot takes a state and stays where it is on the submission list (R165). -/
def State.setSlotState (s : State) (n : SlotId) (st : SlotState) : State :=
  s.setSlot n { s.slots.get n with state := st }

/-- The oldest eligible slot of a list, `seen` being the targets of the slots before it: PENDING, with no earlier slot of the
same target (R170). -/
def State.firstEligible (s : State) (seen : List Target) : List SlotId → Option SlotId
  | [] => none
  | n :: rest =>
    match slotTarget (s.slots.get n) with
    | none => if (s.slots.get n).state = .pending then some n else s.firstEligible seen rest
    | some g =>
      if (s.slots.get n).state = .pending ∧ g ∉ seen then some n else s.firstEligible (g :: seen) rest

/-- The slot the next take takes: the oldest eligible one of the submission list (R170). -/
def State.nextTake (s : State) : Option SlotId := s.firstEligible [] s.submission

/-- The take of a slot whose operation code names `c` (no command, for a bad code): it happens when the oldest eligible slot
holds that command, and otherwise this take is not the part's next one and nothing happens (R170, R171; log 1). -/
def State.takeOf (s : State) (c : Option Command) (body : SlotId → State) : State :=
  match s.nextTake with
  | some n => if slotCommand (s.slots.get n) = c then body n else s
  | none => s

/-! ## Drain marks (R136 to R138) -/

/-- An entry's mark set with one slot more. -/
def addMark (n : SlotId) (m : MarkSet) : MarkSet := m.set n.val true n.isLt

/-- A take marks every posted write and every read in its scope with its slot (R136). -/
def State.mark (s : State) (n : SlotId) (pw : PostedWrite → Bool) (pr : ReadEntry → Bool) : State :=
  { s with
    pwq := s.pwq.map fun e => if pw e then { e with marks := addMark n e.marks } else e
    rdt := s.rdt.map fun d => if pr d then { d with marks := addMark n d.marks } else d }

/-- Whether some entry bears a slot's mark (R138). -/
def State.bears (s : State) (n : SlotId) : Bool :=
  s.pwq.any (fun e => e.marks.get n) || s.rdt.any (fun d => d.marks.get n)

/-- The completion of a retirement in its aperture record: RETIRING becomes FREE, the generation increases by one, the record
leaves its owner's view, and word 6 takes the new generation (R143, R152). A record that is not RETIRING is left as it is
(log 8). -/
def State.completeRetire (s : State) (n : SlotId) : State :=
  match slotAperture (s.slots.get n) with
  | none => s
  | some a =>
    match (s.apertures.get a).life with
    | .retiring g =>
      ((s.setView g.owner ((s.views.get g.owner).filter fun i => decide (i ≠ a))).setAperture a
        { generation := (s.apertures.get a).generation + 1, life := .free }).writeWord n 6
        (fieldAt 0 ((s.apertures.get a).generation + 1))
    | _ => s

/-- The completion of a halt in its requester record: HALTING becomes HALTED; any other state stays (R43). -/
def State.completeHalt (s : State) (n : SlotId) : State :=
  match slotRequester (s.slots.get n) with
  | none => s
  | some r =>
    if (s.requesters.get r).state = .halting then s.setRequester r { s.requesters.get r with state := .halted } else s

/-- The completion effects of the command in a slot, and its end DONE (R138). -/
def State.complete (s : State) (n : SlotId) : State :=
  match slotCommand (s.slots.get n) with
  | some .apRetire => (s.completeRetire n).doneSlot n
  | some .reqHalt => (s.completeHalt n).doneSlot n
  | _ => s.doneSlot n

/-- A taken waiting command waits while an entry bears its mark, and completes in the take event when none does (R138). -/
def State.waitOrComplete (s : State) (n : SlotId) : State :=
  if s.bears n then s.setSlotState n .waiting else s.complete n

/-- The loss count of a waiting command other than REQ_HALT, in word 5, after a departure in error (R137, R152). -/
def State.countLoss (s : State) (n : SlotId) : State :=
  if slotCommand (s.slots.get n) = some .reqHalt then s
  else s.writeWord n 5 (slotWord (s.slots.get n) 5 + 1)

/-- One slot is told that an entry bearing its mark has left: a departure in error counts as a loss, and the departure of the
last bearer completes the command (R137, R138). -/
def State.tell (s : State) (lost : Bool) (n : SlotId) : State :=
  if (s.slots.get n).state = .waiting then
    let s := if lost then s.countLoss n else s
    if s.bears n then s else s.complete n
  else s

/-- Every slot of a departed entry's mark set is told (R137). -/
def State.tellAll (s : State) (lost : Bool) (marks : MarkSet) : List SlotId → State
  | [] => s
  | n :: ns => (if marks.get n then s.tell lost n else s).tellAll lost marks ns

/-! ## Departures (R115 to R117, R126, R129 to R131) -/

/-- How a port request ends for its owner (R159, R161). -/
inductive PortOutcome where
  | ok (data : List Byte)
  | error
  | timeout
  deriving DecidableEq, Repr

/-- The qualifier of an outcome in error: TIMEOUT for an expiry, ERROR for an ERROR answer (R33). -/
def failureOf : PortOutcome → Option Qualifier
  | .ok _ => none
  | .error => some .error
  | .timeout => some .timeout

/-- Whether a posted write holds a port tag. -/
def PostedWrite.holdsTag (t : PortTagId) (e : PostedWrite) : Bool := decide (e.state = .issued t)

/-- Whether a read holds a port tag. -/
def ReadEntry.holdsTag (t : PortTagId) (d : ReadEntry) : Bool := decide (d.state = .issued t)

/-- A read after a posted write has left the queue: the write leaves its holding writes, and a read in ORDER_WAIT that
nothing holds any longer passes to READY (R122, R126). -/
def freeRead (k : Nat) (d : ReadEntry) : ReadEntry :=
  let hold := d.holding.filter fun j => decide (j ≠ k)
  { d with holding := hold, state := if d.state = .orderWait ∧ hold = [] then .ready else d.state }

/-- A bytes list brought to the length that was asked for: each byte the answer lacks is a free value, and bytes past the
length are not the request's (R158; log 5). -/
def fullAnswer (c n : Nat) (data : List Byte) : List Byte :=
  data.take n ++ (List.range (n - data.length)).map fun k => Config.missingAnswerByte (c + k)

/-- The free values that an answer of too few bytes has used are not used again (log 5). -/
def State.useFree (s : State) (n : Nat) (data : List Byte) : State := { s with freeCount := s.freeCount + (n - data.length) }

/-- The departure of the posted write that holds a port tag: it leaves the queue, the reads it held are freed, a loss is
captured on its requester, and the slots of its mark set are told (R115 to R117). -/
def State.departWrite (s : State) (t : PortTagId) (o : PortOutcome) : State :=
  match s.pwq.find? (PostedWrite.holdsTag t) with
  | none => s
  | some e =>
    let s := { s with pwq := s.pwq.eraseP (PostedWrite.holdsTag t), rdt := s.rdt.map (freeRead e.seq) }
    match failureOf o with
    | none => s.tellAll false e.marks allSlots
    | some q => (s.capture e.requester (.writeLost q e.linkAddr e.aperture)).tellAll true e.marks allSlots

/-- The response of a read at its departure, unless its discard flag is set: DATA, or ABORT MEMORY_ERROR (R129, R130). -/
def State.answerRead (s : State) (d : ReadEntry) (o : PortOutcome) : State :=
  match o with
  | .ok data =>
    let s' := s.useFree d.length data
    if d.discard then s' else s'.respond d.requester d.tag (.data (fullAnswer s.freeCount d.length data))
  | _ => if d.discard then s else s.respond d.requester d.tag (.abort .memoryError)

/-- The departure of the read that holds a port tag (R129 to R131). -/
def State.departRead (s : State) (t : PortTagId) (o : PortOutcome) : State :=
  match s.rdt.find? (ReadEntry.holdsTag t) with
  | none => s
  | some d =>
    let s := { s with rdt := s.rdt.eraseP (ReadEntry.holdsTag t) }.answerRead d o
    match failureOf o with
    | none => s.tellAll false d.marks allSlots
    | some q => (s.capture d.requester (.memoryError q d.linkAddr d.aperture)).tellAll true d.marks allSlots

/-! ## Completion of a walk (R82, R95 to R102) -/

/-- A RUNNING TC_PRELOAD ends with the outcome of its walk (R82). -/
def State.endPreload (s : State) (n : SlotId) (o : PreloadEnd) : State :=
  if (s.slots.get n).state = .running then
    match o with
    | .installed => (s.writeWord n 5 2).doneSlot n
    | .pinLimit => s.failSlot n .pinLimit
    | .noPage => s.failSlot n .noPage
    | .walkError q => s.endSlot n .failed .walkError q
  else s

/-- The preload waiter of a walk, if it holds one, ends. -/
def State.endPreloadOf (s : State) (w : Walk) (o : PreloadEnd) : State :=
  match w.preload with
  | none => s
  | some (n, _) => s.endPreload n o

/-- A waiter resumes with the answer's contents: the page check, then the capacity check (R97). The read ordering is that of
the walk's aperture, whose record is LIVE (R95; log 8). -/
def State.resumeWaiter (pe : PageEntry) (w : Walk) (p : Request) (s : State) : State :=
  if pagePermits pe.readable pe.writable (direction p) then
    s.enter w.aperture (((grantOf (s.apertures.get w.aperture)).map Grant.ordering).getD .strict) (frameAddr pe.frame p.addr) p
  else (s.respond p.requester p.tag (.abort .permission)).capture p.requester (.permission (direction p) p.addr w.aperture)

/-- A waiter of a walk whose page map entry is not valid (R99). -/
def State.noPageWaiter (w : Walk) (p : Request) (s : State) : State :=
  (s.respond p.requester p.tag (.abort .noPage)).capture p.requester (.noPage (direction p) p.addr w.aperture w.entryAddr)

/-- A waiter of a walk that failed (R100). -/
def State.walkErrorWaiter (q : Qualifier) (w : Walk) (p : Request) (s : State) : State :=
  (s.respond p.requester p.tag (.abort .walkError)).capture p.requester
    (.walkError q (direction p) p.addr w.aperture w.entryAddr)

/-- The waiters of the walk that holds a port tag are finished one by one, oldest first: each leaves the park pool at its turn
and sees the state that the earlier turns left, so a capture that stops the requester takes the waiters behind it (R90, R98).
`k` bounds the turns; the number of waiters is enough. -/
def State.finishWaiters (t : PortTagId) (finish : Walk → Request → State → State) : Nat → State → State
  | 0, s => s
  | k + 1, s =>
    match s.walks.find? (Walk.holdsTag t) with
    | none => s
    | some w =>
      match w.waiters with
      | [] => s
      | p :: ps =>
        State.finishWaiters t finish k
          (finish w p { s with walks := updateFirst (Walk.holdsTag t) (fun (w : Walk) => { w with waiters := ps }) s.walks })

/-- The record of the walk that holds a port tag is removed and its slot freed (R95, R102). -/
def State.removeWalk (s : State) (t : PortTagId) : State := { s with walks := s.walks.eraseP (Walk.holdsTag t) }

/-- The completion of a walk that is not orphaned (R95 to R100). -/
def State.completeWalk (s : State) (t : PortTagId) (w : Walk) (o : PortOutcome) : State :=
  match o with
  | .ok data =>
    let pe := pageEntryOf (fullAnswer s.freeCount Config.pageEntryBytes data)
    let s := s.useFree Config.pageEntryBytes data
    if pe.valid then
      let refused := match w.preload with
        | some (_, true) => !s.pinGranted w
        | _ => false
      let s := (s.install w pe).endPreloadOf w (if refused then .pinLimit else .installed)
      (State.finishWaiters t (State.resumeWaiter pe) w.waiters.length s).removeWalk t
    else
      (State.finishWaiters t State.noPageWaiter w.waiters.length (s.endPreloadOf w .noPage)).removeWalk t
  | .error =>
    (State.finishWaiters t (State.walkErrorWaiter .error) w.waiters.length (s.endPreloadOf w (.walkError .error))).removeWalk t
  | .timeout =>
    (State.finishWaiters t (State.walkErrorWaiter .timeout) w.waiters.length (s.endPreloadOf w (.walkError .timeout))).removeWalk t

/-- The end of the walk that holds a port tag: an orphaned one reports nothing (R102), another completes (R95). -/
def State.departWalk (s : State) (t : PortTagId) (o : PortOutcome) : State :=
  match s.walks.find? (Walk.holdsTag t) with
  | none => s
  | some w => if w.orphaned then s.removeWalk t else s.completeWalk t w o

/-- The owner of a port tag takes the outcome of its request (R159, R161). -/
def State.ownerTakes (s : State) (t : PortTagId) (k : PortKind) (o : PortOutcome) : State :=
  match k with
  | .walk => s.departWalk t o
  | .write => s.departWrite t o
  | .read => s.departRead t o

/-! ## Grants (R155 to R157) -/

/-- A granted port tag: BUSY with its kind and time 0, and the request leaves the part behind all that left before it, so that the
order of issue is the order of the grant events (R156, R158). -/
def State.issue (s : State) (t : PortTagId) (k : PortKind) (m : PortMessage) : State :=
  { s.setPortTag t (.busy k 0) with portOut := s.portOut ++ [m] }

/-- Whether a walk asks for a port tag. -/
def Walk.waits (w : Walk) : Bool := decide (w.state = .waitingTag)

/-- Whether a posted write is QUEUED. -/
def PostedWrite.isQueued (e : PostedWrite) : Bool := decide (e.state = .queued)

/-- Whether a read is READY. -/
def ReadEntry.isReady (d : ReadEntry) : Bool := decide (d.state = .ready)

/-- The oldest waiting walk becomes ISSUED and its 8-byte read is issued (R94). -/
def State.issueWalk (s : State) (t : PortTagId) (w : Walk) : State :=
  { s with walks := updateFirst Walk.waits (fun (w : Walk) => { w with state := .issued t }) s.walks }.issue t .walk
    (.walkRead t w.entryAddr)

/-- The oldest QUEUED posted write becomes ISSUED and its request is issued (R111, R113). It looks at no read: a write accepted
after a read is issued without waiting for the read (R158). -/
def State.issueWrite (s : State) (t : PortTagId) (e : PostedWrite) : State :=
  { s with pwq := updateFirst PostedWrite.isQueued (fun (e : PostedWrite) => { e with state := .issued t }) s.pwq }.issue t .write
    (.write t e.memAddr e.length e.enables e.data)

/-- The oldest READY read becomes ISSUED and its request is issued (R128). -/
def State.issueRead (s : State) (t : PortTagId) (d : ReadEntry) : State :=
  { s with rdt := updateFirst ReadEntry.isReady (fun (d : ReadEntry) => { d with state := .issued t }) s.rdt }.issue t .read
    (.read t d.memAddr d.length)

/-- The arbiter's choice for a FREE port tag (R157). No request that awaits its answer holds the choice back (R158). -/
def State.arbitrate (s : State) (t : PortTagId) : State :=
  match s.walks.find? Walk.waits with
  | some w => s.issueWalk t w
  | none =>
    match s.pwq.find? PostedWrite.isQueued, s.rdt.find? ReadEntry.isReady with
    | some e, some d =>
      match s.contest with
      | .pwq => { s.issueWrite t e with contest := .rdt }
      | .rdt => { s.issueRead t d with contest := .pwq }
    | some e, none => s.issueWrite t e
    | none, some d => s.issueRead t d
    | none, none => s

/-! ## Time and resets -/

/-- A port tag one microsecond later: a BUSY one counts (R160). -/
def laterTag : PortTag → PortTag
  | .busy k time => .busy k (time + 1)
  | .free => .free
  | .quarantined => .quarantined

/-- One microsecond of the reference clock passes (R160; log 3). -/
def State.tick (s : State) : State := { s with portTags := mapTable laterTag s.portTags }

/-- A part reset: every block takes its reset values, and the reset is signalled on the host memory port (R5, R28, R66, R86,
R105, R121, R135, R163, R176). The pin, the records of what was sent, the free values' index and the queue of commands are no
state of the part that a reset reaches (log 7). -/
def State.partReset (s : State) : State :=
  { State.reset with
    resetLow := s.resetLow
    linkOut := s.linkOut
    portOut := s.portOut ++ [.resetSignal]
    freeCount := s.freeCount
    pending := s.pending }

/-! ## Writes of the control window (R166 to R178) -/

/-- A refused slot write, START, ACK or partial write sets SUBMIT_ERROR (R172). -/
def State.refuseWrite (s : State) : State := { s with submitError := true }

/-- A write to one of words 0 to 6: stored while the slot is FREE, refused otherwise (R166). -/
def State.hostWord (s : State) (n : SlotId) (k : Fin 7) (v : Word) : State :=
  if (s.slots.get n).state = .free then s.writeWord n k v else s.refuseWrite

/-- START: a FREE slot becomes PENDING at the tail of the submission list; refused otherwise (R167). -/
def State.startSlot (s : State) (n : SlotId) : State :=
  if (s.slots.get n).state = .free then
    { s.setSlotState n .pending with submission := s.submission ++ [n] }
  else s.refuseWrite

/-- ACK: a DONE or FAILED slot becomes FREE with status NONE, its words kept; refused otherwise (R168). -/
def State.ackSlot (s : State) (n : SlotId) : State :=
  if ended (s.slots.get n) then
    s.setSlot n { s.slots.get n with state := .free, status := .none, qualifier := .error }
  else s.refuseWrite

/-- A write to word 7, by its action field: 1 START, 2 ACK, 0 nothing, 3 refused; the other bits are ignored (R167). -/
def State.hostWord7 (s : State) (n : SlotId) (v : Word) : State :=
  match (v.extractLsb' 24 2).toNat with
  | 0 => s
  | 1 => s.startSlot n
  | 2 => s.ackSlot n
  | _ => s.refuseWrite

/-- A write of CONTROL: with SOFT_RESET a part reset, whatever LINK_ENABLE says; otherwise LINK_ENABLE takes bit 0 (R174). -/
def State.hostControl (s : State) (v : Word) : State :=
  if v.getLsbD 1 then s.partReset else { s with linkEnable := v.getLsbD 0 }

/-- A write of INT_STATUS: 1 in bit 2 clears SUBMIT_ERROR; the other bits are ignored (R173). -/
def State.hostIntStatus (s : State) (v : Word) : State :=
  { s with submitError := s.submitError && !v.getLsbD 2 }

/-- A write of INT_ENABLE replaces the three enables (R173). -/
def State.hostIntEnable (s : State) (v : Word) : State := { s with intEnable := v.extractLsb' 0 3 }

/-- A write of RESPONSE_LIMIT stores the low twelve bits (R175). -/
def State.hostResponseLimit (s : State) (v : Word) : State := { s with responseLimit := v.extractLsb' 0 12 }

/-- A whole aligned word written at what the register map lists there; ID and unlisted words ignore it (R166 to R176). -/
def State.hostWriteAt (s : State) (w : WindowWord) (v : Word) : State :=
  match w with
  | .id => s
  | .control => s.hostControl v
  | .intStatus => s.hostIntStatus v
  | .intEnable => s.hostIntEnable v
  | .responseLimit => s.hostResponseLimit v
  | .slot n k => if h : k.val < 7 then s.hostWord n ⟨k.val, h⟩ v else s.hostWord7 n v
  | .unlisted => s

/-- A whole aligned word write of the control window; while RESET_N is low it is ignored (R176). -/
def State.hostWrite (s : State) (w : WindowWord) (v : Word) : State := if s.resetLow then s else s.hostWriteAt w v

/-- A write access of any bytes: the four bytes of one aligned word are the word write; anything else changes no word, and
sets SUBMIT_ERROR where a byte of it lies in a listed word (R178). A byte past the window is in no listed word (log 9). -/
def State.hostAccess (s : State) (offset : Nat) (bytes : List Byte) : State :=
  if s.resetLow then s
  else if offset % 4 = 0 ∧ bytes.length = 4 then s.hostWriteAt (windowAt offset) (BitVec.ofNat 32 (littleEndian bytes))
  else if (List.range bytes.length).any fun i => listedAt (offset + i) then s.refuseWrite
  else s

end Sys2Proof.Machine
end

