-- ==== Sys2Proof/Machine/Apertures.lean ====
section
/-! DEFINITION. The aperture commands AP_SET and QUERY_APERTURE (spec/01). -/

namespace Sys2Proof.Machine

/-- The effects of an AP_SET that passes every check: the record becomes LIVE with its generation kept, it joins its owner's
view at the position of its link base, and the command ends DONE with the generation in word 5 (R23). -/
def State.grantAperture (s : State) (n : SlotId) (a : ApIndex) (g : Grant) : State :=
  let gen := (s.apertures.get a).generation
  (((s.setAperture a { generation := gen, life := .live g }).setView g.owner
    (s.insertByBase g.linkBase.toNat a (s.views.get g.owner))).writeWord n 5 (fieldAt 0 gen)).doneSlot n

/-- The take of AP_SET in a slot, its checks in the order of R18. -/
def State.takeApSet (s : State) (n : SlotId) : State :=
  let sl := s.slots.get n
  match slotAperture sl, slotOwner sl with
  | some a, some owner =>
    match (s.apertures.get a).life with
    | .live _ => s.failSlot n .notFree
    | .retiring _ => s.failSlot n .busy
    | .free =>
      if misaligned sl then s.failSlot n .align
      else
        match grantOperands sl owner with
        | none => s.failSlot n .range
        | some g => if s.overlapsView g then s.failSlot n .overlap else s.grantAperture n a g
  | _, _ => s.failSlot n .badIndex

/-- AP_SET (R18). -/
def execApSet (s : State) : Result := .next (s.takeOf (some .apSet) s.takeApSet)

/-- The take of QUERY_APERTURE in a slot (R25). -/
def State.takeQueryAperture (s : State) (n : SlotId) : State :=
  match slotAperture (s.slots.get n) with
  | none => s.failSlot n .badIndex
  | some a =>
    (s.setSlot n (withReport (s.slots.get n) (apertureReport (s.apertures.get a) (s.inFlight a)))).doneSlot n

/-- QUERY_APERTURE (R25). -/
def execQueryAperture (s : State) : Result := .next (s.takeOf (some .queryAperture) s.takeQueryAperture)

end Sys2Proof.Machine
end

