-- ==== Sys2Proof/Machine/Cache.lean ====
section
/-! DEFINITION. The translation cache commands TC_PRELOAD, TC_UNPIN and QUERY_TC, and the end of a preload (spec/04). -/

namespace Sys2Proof.Machine

/-- A TC_PRELOAD that finds its entry (R80, R76). -/
def State.preloadPresent (s : State) (n : SlotId) (p : TcEntry → Bool) (e : TcEntry) : State :=
  let pin := slotFlag (s.slots.get n)
  if pin = true ∧ e.pinned = false ∧ Config.tcPins ≤ s.pins then s.failSlot n .pinLimit
  else ({ s with tc := { e with pinned := e.pinned || pin } :: s.tc.eraseP p }.writeWord n 5 1).doneSlot n

/-- A TC_PRELOAD that finds no entry: it becomes the preload waiter of the page's walk, started if a slot is free, and is
RUNNING; or it ends FAILED WALK_BUSY (R81, R93). -/
def State.preloadWalk (s : State) (n : SlotId) (a : ApIndex) (gen : Generation) (page : Nat) (mapBase : MemAddr) : State :=
  let join : Walk → Walk := fun w => { w with preload := some (n, slotFlag (s.slots.get n)) }
  if s.walks.any (Walk.isFor a gen page) then
    { s with walks := updateFirst (Walk.isFor a gen page) join s.walks }.setSlotState n .running
  else if s.walks.length < Config.walkSlots then
    { s with walks := s.walks ++ [join (newWalk a gen page mapBase)] }.setSlotState n .running
  else s.failSlot n .walkBusy

/-- The take of TC_PRELOAD in a slot, its checks in the order of R79. -/
def State.takeTcPreload (s : State) (n : SlotId) : State :=
  let sl := s.slots.get n
  let page := (slotWord sl 1).toNat
  match slotAperture sl with
  | none => s.failSlot n .badIndex
  | some a =>
    match (s.apertures.get a).life with
    | .live g =>
      match g.base with
      | .direct _ => s.failSlot n .notMapped
      | .mapped mapBase =>
        let gen := (s.apertures.get a).generation
        if page < g.pages then
          match s.tc.find? (TcEntry.isFor a gen page) with
          | some e => s.preloadPresent n (TcEntry.isFor a gen page) e
          | none => s.preloadWalk n a gen page mapBase
        else s.failSlot n .range
    | _ => s.failSlot n .notLive

/-- TC_PRELOAD (R79). -/
def execTcPreload (s : State) : Result := .next (s.takeOf (some .tcPreload) s.takeTcPreload)

/-- Whether a cache entry is the one with an aperture index and a page index, whatever its generation (R84, R68). -/
def TcEntry.isAt (a : ApIndex) (page : Nat) (e : TcEntry) : Bool := decide (e.aperture = a) && decide (e.page = page)

/-- An entry with its pin cleared (R84). -/
def clearPin (e : TcEntry) : TcEntry := { e with pinned := false }

/-- The take of TC_UNPIN in a slot (R84). -/
def State.takeTcUnpin (s : State) (n : SlotId) : State :=
  let sl := s.slots.get n
  match slotAperture sl with
  | none => s.failSlot n .badIndex
  | some a =>
    if s.tc.any (TcEntry.isAt a (slotWord sl 1).toNat) then
      { s with tc := updateFirst (TcEntry.isAt a (slotWord sl 1).toNat) clearPin s.tc }.doneSlot n
    else s.failSlot n .notCached

/-- TC_UNPIN (R84). -/
def execTcUnpin (s : State) : Result := .next (s.takeOf (some .tcUnpin) s.takeTcUnpin)

/-- The take of QUERY_TC in a slot; the index field is a position, 0 to 31 (R85, R171). -/
def State.takeQueryTc (s : State) (n : SlotId) : State :=
  let sl := s.slots.get n
  if (slotIndex sl).toNat < 32 then
    (s.setSlot n (withReport sl (cacheReport s.tc.length s.pins s.tc[(slotIndex sl).toNat]?))).doneSlot n
  else s.failSlot n .badIndex

/-- QUERY_TC (R85). -/
def execQueryTc (s : State) : Result := .next (s.takeOf (some .queryTc) s.takeQueryTc)

/-- TC_PRELOAD_COMPLETION as a command of its own (R82): the RUNNING preload in a slot ends with its walk's outcome once no walk
holds it. R82 places this end in the event of the walk's completion, which ANSWER and EXPIRY carry out; in the states they
leave there is no such slot and this changes nothing (log 2). -/
def execTcPreloadCompletion (n : SlotId) (o : PreloadEnd) (s : State) : Result :=
  .next
    (if slotCommand (s.slots.get n) = some .tcPreload ∧ (s.walks.any fun w => decide (w.preload.map Prod.fst = some n)) = false
    then s.endPreload n o
    else s)

end Sys2Proof.Machine
end

