-- ==== Sys2Proof/Machine/DeviceLink.lean ====
section
/-! DEFINITION. The device link: ARRIVAL and LINK_RESET (spec/03). -/

namespace Sys2Proof.Machine

/-- What admission answers a new request by the requester's state: none where it is admitted (R29). -/
def admission : RequesterState → Option LinkReply
  | .disabled => some (.abort .denied)
  | .enabled => none
  | .halting => some (.retry .halted)
  | .halted => some (.retry .halted)
  | .stopped => some (.abort .stopped)

/-- A request found in an aperture whose page map entry is known: the page check, then the capacity check (R15, R56, R57). -/
def State.hit (s : State) (a : ApIndex) (g : Grant) (e : TcEntry) (q : Request) : State :=
  if pagePermits e.readable e.writable (direction q) then s.enter a g.ordering (frameAddr e.frame q.addr) q
  else (s.respond q.requester q.tag (.abort .permission)).capture q.requester (.permission (direction q) q.addr a)

/-- Check 7, translation and capacity, of a request that has passed checks 1 to 6 (R56 to R58, R72). -/
def State.translate (s : State) (a : ApIndex) (g : Grant) (q : Request) : State :=
  match g.base with
  | .direct memBase => s.enter a g.ordering (directAddr memBase g q.addr) q
  | .mapped mapBase =>
    let gen := (s.apertures.get a).generation
    let page := linkPage g q.addr
    match s.tc.find? (TcEntry.isFor a gen page) with
    | some e => { s with tc := toHead (TcEntry.isFor a gen page) s.tc }.hit a g e q
    | none => s.miss a gen page mapBase q

/-- Checks 4 to 7 of a well-formed request that arrives with LINK_ENABLE set: admission, lookup, access, translation (R51,
R55). -/
def State.checkAdmission (s : State) (q : Request) : State :=
  match admission (s.requesters.get q.requester).state with
  | some x => s.respond q.requester q.tag x
  | none =>
    match s.lookup q.requester q.addr with
    | none => (s.respond q.requester q.tag (.abort .noAperture)).capture q.requester (.noAperture (direction q) q.addr)
    | some (a, g) =>
      if permits g.access (direction q) then s.translate a g q
      else (s.respond q.requester q.tag (.abort .permission)).capture q.requester (.permission (direction q) q.addr a)

/-- Checks 2 to 7, with the tag BUSY (R51, R53, R54). -/
def State.checkArrival (s : State) (q : Request) : State :=
  if inOneLine q then
    if s.linkEnable then s.checkAdmission (maskEnables q) else s.respond q.requester q.tag (.retry .notReady)
  else (s.respond q.requester q.tag (.abort .protocol)).capture q.requester (.protocol (direction q) q.addr)

/-- ARRIVAL (R51): dropped in silence while RESET_N is low (R66); a duplicate tag is dropped and captured (R52); otherwise the
tag becomes BUSY (R49) and the checks go on. -/
def execArrival (q : Request) (s : State) : Result :=
  .next
    (if s.resetLow then s
    else if s.linkTag q.requester q.tag = .busy then s.capture q.requester (.protocol (direction q) q.addr)
    else (s.setLinkTag q.requester q.tag .busy).checkArrival q)

/-- LINK_RESET (R62 to R64, R103, R133): every link tag becomes FREE, the parked transactions are removed without a response,
and every read tracker entry gets its discard flag; everything else stays. -/
def execLinkReset (s : State) : Result :=
  .next { s with
    linkTags := Vector.replicate 16 (Vector.replicate 4 .free)
    walks := s.walks.map fun w => { w with waiters := [] }
    rdt := s.rdt.map fun d => { d with discard := true } }

end Sys2Proof.Machine
end

