-- ==== Sys2Proof/Machine/Port.lean ====
section
/-! DEFINITION. The host memory port: ANSWER, EXPIRY and GRANT (spec/09). -/

namespace Sys2Proof.Machine

/-- An answer as the outcome of the request it answers. -/
def outcomeOf : Answer → PortOutcome
  | .ok data => .ok data
  | .error => .error

/-- ANSWER (R159): under a BUSY tag the tag becomes FREE and the owner takes the outcome; a late answer frees a QUARANTINED tag
and is discarded; an answer under a FREE tag is discarded. Answers come in any order, and every answer is taken, those that R158
rules out among them (log 10; Machine/HostMemory.lean has its terms). -/
def execAnswer (t : PortTagId) (a : Answer) (s : State) : Result :=
  .next
    (match s.portTags.get t with
    | .free => s
    | .quarantined => s.setPortTag t .free
    | .busy k _ => (s.setPortTag t .free).ownerTakes t k (outcomeOf a))

/-- Whether the request under a port tag may expire: it is BUSY, the limit is not 0, and its time since issue has reached the
limit in force (R160). It bounds how long the part waits for an answer that may never come (R158). -/
def State.expires (s : State) (time : Nat) : Bool :=
  decide (s.responseLimit ≠ 0) && decide (s.responseLimit.toNat ≤ time)

/-- EXPIRY (R161): the tag becomes QUARANTINED and the owner takes TIMEOUT. A request that has not reached the limit does not
expire (R160; log 1). -/
def execExpiry (t : PortTagId) (s : State) : Result :=
  .next
    (match s.portTags.get t with
    | .busy k time => if s.expires time then (s.setPortTag t .quarantined).ownerTakes t k .timeout else s
    | .free => s
    | .quarantined => s)

/-- GRANT (R156, R157) of a FREE port tag; a tag that is not FREE is not granted (R154; log 1). -/
def execGrant (t : PortTagId) (s : State) : Result :=
  .next (if s.portTags.get t = .free then s.arbitrate t else s)

end Sys2Proof.Machine
end

