-- ==== Sys2Proof/Machine/Requesters.lean ====
section
/-! DEFINITION. The requester commands, and the completion of REQ_HALT (spec/02; the drain in spec/08). -/

namespace Sys2Proof.Machine

/-- A requester command: a number above 15 fails with BAD_INDEX (R38). -/
def State.takeRequester (s : State) (n : SlotId) (body : RequesterId → State) : State :=
  match slotRequester (s.slots.get n) with
  | none => s.failSlot n .badIndex
  | some r => body r

/-- The effect of REQ_ENABLE (R40). -/
def State.enable (s : State) (n : SlotId) (r : RequesterId) : State :=
  let q := s.requesters.get r
  match q.state with
  | .disabled | .enabled =>
    (s.setRequester r { q with state := .enabled, stopOnFault := slotFlag (s.slots.get n) }).doneSlot n
  | .halting | .halted | .stopped => s.failSlot n .state

/-- REQ_ENABLE (R40). -/
def execReqEnable (s : State) : Result := .next (s.takeOf (some .reqEnable) fun n => s.takeRequester n (s.enable n))

/-- The effect of REQ_DISABLE: DISABLED from every state; a requester that leaves ENABLED has its parked transactions released
with ABORT DENIED (R41, R31). -/
def State.disable (s : State) (n : SlotId) (r : RequesterId) : State :=
  let q := s.requesters.get r
  let t := s.setRequester r { q with state := .disabled }
  (if q.state = .enabled then t.release r (.abort .denied) else t).doneSlot n

/-- REQ_DISABLE (R41). -/
def execReqDisable (s : State) : Result := .next (s.takeOf (some .reqDisable) fun n => s.takeRequester n (s.disable n))

/-- A halt marks every posted write and read of the requester, and waits or completes (R42, R136, R149). -/
def State.drainRequester (s : State) (n : SlotId) (r : RequesterId) : State :=
  (s.mark n (fun e => decide (e.requester = r)) (fun d => decide (d.requester = r))).waitOrComplete n

/-- The effect of REQ_HALT (R42). -/
def State.halt (s : State) (n : SlotId) (r : RequesterId) : State :=
  let q := s.requesters.get r
  match q.state with
  | .enabled => ((s.setRequester r { q with state := .halting }).release r (.retry .halted)).drainRequester n r
  | .stopped => (s.setRequester r { q with state := .halting }).drainRequester n r
  | .halted => s.doneSlot n
  | .disabled | .halting => s.failSlot n .state

/-- REQ_HALT (R42). -/
def execReqHalt (s : State) : Result := .next (s.takeOf (some .reqHalt) fun n => s.takeRequester n (s.halt n))

/-- The effect of REQ_RESUME (R44). -/
def State.resume (s : State) (n : SlotId) (r : RequesterId) : State :=
  let q := s.requesters.get r
  if q.state = .halted then (s.setRequester r { q with state := .enabled }).doneSlot n else s.failSlot n .state

/-- REQ_RESUME (R44). -/
def execReqResume (s : State) : Result := .next (s.takeOf (some .reqResume) fun n => s.takeRequester n (s.resume n))

/-- The effect of FAULT_CLEAR: no first fault, count 0, and a STOPPED requester becomes ENABLED (R45). -/
def State.clearFault (s : State) (n : SlotId) (r : RequesterId) : State :=
  let q := s.requesters.get r
  (s.setRequester r { q with
    firstFault := none
    faultCount := 0
    state := if q.state = .stopped then .enabled else q.state }).doneSlot n

/-- FAULT_CLEAR (R45). -/
def execFaultClear (s : State) : Result := .next (s.takeOf (some .faultClear) fun n => s.takeRequester n (s.clearFault n))

/-- The effect of QUERY_REQUESTER (R46). -/
def State.queryRequester (s : State) (n : SlotId) (r : RequesterId) : State :=
  (s.setSlot n (withReport (s.slots.get n) (requesterReport (s.requesters.get r)))).doneSlot n

/-- QUERY_REQUESTER (R46). -/
def execQueryRequester (s : State) : Result :=
  .next (s.takeOf (some .queryRequester) fun n => s.takeRequester n (s.queryRequester n))

end Sys2Proof.Machine
end

