-- ==== Sys2Proof/Machine/Resets.lean ====
section
/-! DEFINITION. PART_RESET and RESET_N_RELEASE (spec/10 R176). -/

namespace Sys2Proof.Machine

/-- PART_RESET (R176): a part reset; where RESET_N caused it, the pin is low until RESET_N_RELEASE. -/
def execPartReset (cause : ResetCause) (s : State) : Result :=
  .next
    (match cause with
    | .resetNLow => { s.partReset with resetLow := true }
    | .powerOn => s.partReset)

/-- RESET_N_RELEASE (R176): RESET_N returns high. -/
def execResetNRelease (s : State) : Result := .next { s with resetLow := false }

end Sys2Proof.Machine
end

