-- ==== Sys2Proof/Machine/Revocation.lean ====
section
/-! DEFINITION. AP_RETIRE, AP_INVALIDATE and FLUSH, and the completions of the waiting commands (spec/08; REQ_HALT's in spec/02). -/

namespace Sys2Proof.Machine

/-- The effects of an AP_RETIRE that passes its checks, in its take event (R141, R152). -/
def State.retire (s : State) (n : SlotId) (a : ApIndex) (g : Grant) : State :=
  let gen := (s.apertures.get a).generation
  let s := (s.setAperture a { generation := gen, life := .retiring g }).dropEntries fun e => decide (e.aperture = a)
  let s := s.orphan (fun w => decide (w.aperture = a)) (.abort .noAperture)
  let s := s.mark n (fun e => decide (e.aperture = a)) (fun d => decide (d.aperture = a))
  ((s.writeWord n 5 0).writeWord n 6 (fieldAt 0 gen)).waitOrComplete n

/-- The take of AP_RETIRE in a slot, its checks in the order of R140. -/
def State.takeApRetire (s : State) (n : SlotId) : State :=
  match slotAperture (s.slots.get n) with
  | none => s.failSlot n .badIndex
  | some a =>
    match (s.apertures.get a).life with
    | .free => s.failSlot n .notLive
    | .retiring _ => s.failSlot n .alreadyRetiring
    | .live g =>
      if generationAgrees (s.slots.get n) (s.apertures.get a).generation then s.retire n a g else s.failSlot n .stale

/-- AP_RETIRE (R140, R141). -/
def execApRetire (s : State) : Result := .next (s.takeOf (some .apRetire) s.takeApRetire)

/-- The effects of an AP_INVALIDATE that passes its checks, in its take event (R146, R152). -/
def State.invalidate (s : State) (n : SlotId) (a : ApIndex) (g : Grant) : State :=
  let sl := s.slots.get n
  let inScope : TcEntry → Bool := fun e => decide (e.aperture = a) && inPages sl e.page
  let dropped := s.tc.countP inScope
  let s := (s.dropEntries inScope).orphan (fun w => decide (w.aperture = a) && inPages sl w.page) (.retry .invalidated)
  let s := s.mark n (fun e => decide (e.aperture = a) && inPages sl (linkPage g e.linkAddr))
    (fun d => decide (d.aperture = a) && inPages sl (linkPage g d.linkAddr))
  ((s.writeWord n 5 0).writeWord n 6 (natAt 0 dropped)).waitOrComplete n

/-- The take of AP_INVALIDATE in a slot, its checks in the order of R145. -/
def State.takeApInvalidate (s : State) (n : SlotId) : State :=
  let sl := s.slots.get n
  match slotAperture sl with
  | none => s.failSlot n .badIndex
  | some a =>
    match (s.apertures.get a).life with
    | .live g =>
      if 1 ≤ (slotWord sl 2).toNat ∧ (slotWord sl 1).toNat + (slotWord sl 2).toNat ≤ g.pages then s.invalidate n a g
      else s.failSlot n .range
    | _ => s.failSlot n .notLive

/-- AP_INVALIDATE (R145, R146). -/
def execApInvalidate (s : State) : Result := .next (s.takeOf (some .apInvalidate) s.takeApInvalidate)

/-- The take of FLUSH in a slot: every posted write is marked, and the loss count is 0 (R150, R152). -/
def State.takeFlush (s : State) (n : SlotId) : State :=
  ((s.mark n (fun _ => true) (fun _ => false)).writeWord n 5 0).waitOrComplete n

/-- FLUSH (R150). -/
def execFlush (s : State) : Result := .next (s.takeOf (some .flush) s.takeFlush)

/-- The take of a slot whose operation code names no command: FAILED BAD_OP (R171). -/
def execBadOp (s : State) : Result := .next (s.takeOf none fun n => s.failSlot n .badOp)

/-- A completion as a command of its own: the waiting command `c` in a slot completes once no entry bears its mark. R138 places
it in the departure event of the last bearer (or the take), which ANSWER, EXPIRY and the takes carry out; in the states they
leave there is no such slot and this changes nothing (log 2). -/
def State.completeIf (s : State) (n : SlotId) (c : Command) : State :=
  if (s.slots.get n).state = .waiting ∧ slotCommand (s.slots.get n) = some c ∧ s.bears n = false then s.complete n else s

/-- AP_RETIRE_COMPLETION (R143). -/
def execApRetireCompletion (n : SlotId) (s : State) : Result := .next (s.completeIf n .apRetire)

/-- AP_INVALIDATE_COMPLETION (R147). -/
def execApInvalidateCompletion (n : SlotId) (s : State) : Result := .next (s.completeIf n .apInvalidate)

/-- FLUSH_COMPLETION (R151). -/
def execFlushCompletion (n : SlotId) (s : State) : Result := .next (s.completeIf n .flush)

/-- REQ_HALT_COMPLETION (R43). -/
def execReqHaltCompletion (n : SlotId) (s : State) : Result := .next (s.completeIf n .reqHalt)

end Sys2Proof.Machine
end

