-- ==== Sys2Proof/Machine/Window.lean ====
section
/-! DEFINITION. The writes of the control window (spec/10, spec/11 R178). While RESET_N is low every one is ignored (R176). -/

namespace Sys2Proof.Machine

/-- START (R167): a write to word 7 of a slot. -/
def execStart (n : SlotId) (v : Word) (s : State) : Result := .next (s.hostWrite (.slot n 7) v)

/-- ACK (R168): a write to word 7 of a slot. -/
def execAck (n : SlotId) (v : Word) (s : State) : Result := .next (s.hostWrite (.slot n 7) v)

/-- WORD_7_ACTION_3 (R167): a write to word 7 of a slot. -/
def execWord7Action3 (n : SlotId) (v : Word) (s : State) : Result := .next (s.hostWrite (.slot n 7) v)

/-- SLOT_WORD_WRITE (R166): a write to one of words 0 to 6 of a slot. -/
def execSlotWordWrite (n : SlotId) (k : Fin 7) (v : Word) (s : State) : Result :=
  .next (s.hostWrite (.slot n k.castSucc) v)

/-- LINK_ENABLE (R174): a write of CONTROL. -/
def execLinkEnable (v : Word) (s : State) : Result := .next (s.hostWrite .control v)

/-- SOFT_RESET (R174): a write of CONTROL with bit 1 set. -/
def execSoftReset (v : Word) (s : State) : Result := .next (s.hostWrite .control v)

/-- INT_STATUS_WRITE (R173). -/
def execIntStatusWrite (v : Word) (s : State) : Result := .next (s.hostWrite .intStatus v)

/-- INT_ENABLE_WRITE (R172, R173). -/
def execIntEnableWrite (v : Word) (s : State) : Result := .next (s.hostWrite .intEnable v)

/-- RESPONSE_LIMIT_WRITE (R160, R175). -/
def execResponseLimitWrite (v : Word) (s : State) : Result := .next (s.hostWrite .responseLimit v)

/-- REGISTER_WRITE (R175, R178): a write access of any bytes at any offset of the window. -/
def execRegisterWrite (off : BitVec 12) (bytes : List Byte) (s : State) : Result := .next (s.hostAccess off.toNat bytes)

end Sys2Proof.Machine
end

