-- ==== Sys2Proof/Machine/Dispatch.lean ====
section
/-! DEFINITION. The meaning of each command, one arm each. -/

namespace Sys2Proof.Machine

def exec (i : Instr) (s : State) : Host.Outcome State Fault Refusal :=
  match i with
  | .arrival q => Sys2Proof.Machine.execArrival q s
  | .linkReset => Sys2Proof.Machine.execLinkReset s
  | .partReset cause => Sys2Proof.Machine.execPartReset cause s
  | .answer tag a => Sys2Proof.Machine.execAnswer tag a s
  | .expiry tag => Sys2Proof.Machine.execExpiry tag s
  | .grant tag => Sys2Proof.Machine.execGrant tag s
  | .apSet => Sys2Proof.Machine.execApSet s
  | .apRetire => Sys2Proof.Machine.execApRetire s
  | .apInvalidate => Sys2Proof.Machine.execApInvalidate s
  | .queryAperture => Sys2Proof.Machine.execQueryAperture s
  | .reqEnable => Sys2Proof.Machine.execReqEnable s
  | .reqDisable => Sys2Proof.Machine.execReqDisable s
  | .reqHalt => Sys2Proof.Machine.execReqHalt s
  | .reqResume => Sys2Proof.Machine.execReqResume s
  | .faultClear => Sys2Proof.Machine.execFaultClear s
  | .queryRequester => Sys2Proof.Machine.execQueryRequester s
  | .tcPreload => Sys2Proof.Machine.execTcPreload s
  | .tcUnpin => Sys2Proof.Machine.execTcUnpin s
  | .queryTc => Sys2Proof.Machine.execQueryTc s
  | .flush => Sys2Proof.Machine.execFlush s
  | .badOp => Sys2Proof.Machine.execBadOp s
  | .apRetireCompletion slot => Sys2Proof.Machine.execApRetireCompletion slot s
  | .apInvalidateCompletion slot => Sys2Proof.Machine.execApInvalidateCompletion slot s
  | .flushCompletion slot => Sys2Proof.Machine.execFlushCompletion slot s
  | .reqHaltCompletion slot => Sys2Proof.Machine.execReqHaltCompletion slot s
  | .tcPreloadCompletion slot outcome => Sys2Proof.Machine.execTcPreloadCompletion slot outcome s
  | .start slot value => Sys2Proof.Machine.execStart slot value s
  | .ack slot value => Sys2Proof.Machine.execAck slot value s
  | .slotWordWrite slot index value => Sys2Proof.Machine.execSlotWordWrite slot index value s
  | .linkEnable value => Sys2Proof.Machine.execLinkEnable value s
  | .softReset value => Sys2Proof.Machine.execSoftReset value s
  | .intStatusWrite value => Sys2Proof.Machine.execIntStatusWrite value s
  | .intEnableWrite value => Sys2Proof.Machine.execIntEnableWrite value s
  | .responseLimitWrite value => Sys2Proof.Machine.execResponseLimitWrite value s
  | .registerWrite offset bytes => Sys2Proof.Machine.execRegisterWrite offset bytes s
  | .resetNRelease => Sys2Proof.Machine.execResetNRelease s
  | .word7Action3 slot value => Sys2Proof.Machine.execWord7Action3 slot value s

end Sys2Proof.Machine
end

