-- ==== Sys2Proof/Machine/HostMemory.lean ====
section
/-! DEFINITION. The terms under which host memory serves the requests that the port issues (R158). Host memory is no part of
the KA-312 and has no field of State (log 10): what it does is a history, which a statement that rests on the terms names. A
request is named by its place in `State.portOut`, the order of issue. -/

namespace Sys2Proof.Machine

/-! ## The requests that await an answer -/

/-- The port tag that a message of the port goes out under. -/
def messageTag : PortMessage → Option PortTagId
  | .walkRead t _ => some t
  | .write t _ _ _ _ => some t
  | .read t _ _ => some t
  | .resetSignal => none

/-- The place of the last request issued under a port tag. -/
def lastUnder (t : PortTagId) : List PortMessage → Option Nat
  | [] => none
  | m :: ms =>
    match lastUnder t ms with
    | some k => some (k + 1)
    | none => if messageTag m = some t then some 0 else none

/-- The last request issued under a port tag. -/
def State.lastRequest (s : State) (t : PortTagId) : Option PortMessage := (lastUnder t s.portOut).bind fun k => s.portOut[k]?

/-- The request that host memory may still answer under a port tag: each is answered at most once, which ends the tag's BUSY or
QUARANTINED state, and none after the reset signal that frees every tag (R154, R158, R163). -/
def State.owed (s : State) (t : PortTagId) : Option Nat :=
  if s.portTags.get t = .free then none else lastUnder t s.portOut

/-! ## What host memory does -/

/-- One thing that happens in host memory (R158, R180). -/
inductive HostEvent where
  /-- The request at a place in the order of issue is performed; `bytes` says which bytes of its line a write writes. -/
  | performs (place : Nat) (bytes : BitVec 64)
  /-- Another agent of the host writes one byte (R94, R179, R180). -/
  | otherWrites (addr : MemAddr) (value : Byte)
  deriving DecidableEq, Repr

/-- Whether a message is a write. -/
def isWriteRequest : PortMessage → Bool
  | .write _ _ _ _ _ => true
  | _ => false

/-- The bytes that a read or a walk's read asks for: the first one's address and their number (R156). -/
def askedBytes : PortMessage → Option (MemAddr × Nat)
  | .walkRead _ a => some (a, Config.pageEntryBytes)
  | .read _ a n => some (a, n)
  | _ => none

/-- One byte of host memory after an event, by its value before: a write that is performed writes the bytes of its range that
the event names (R113, R158). -/
def byteAfterEvent (issued : List PortMessage) (x : MemAddr) (v : Byte) : HostEvent → Byte
  | .otherWrites a b => if a = x then b else v
  | .performs k bytes =>
    match issued[k]? with
    | some (.write _ a n _ data) =>
      if a.toNat ≤ x.toNat ∧ x.toNat < a.toNat + n ∧ bytes.getLsbD (x.toNat % 64) = true then data.getD (x.toNat - a.toNat) v
      else v
    | _ => v

/-- One byte of host memory after a history, by its value at the start. -/
def byteAfter (issued : List PortMessage) (x : MemAddr) (v : Byte) (h : List HostEvent) : Byte :=
  h.foldl (byteAfterEvent issued x) v

/-- The bytes that host memory holds in a range after a history. -/
def bytesAfter (issued : List PortMessage) (start : MemAddr → Byte) (h : List HostEvent) (a : MemAddr) (n : Nat) : List Byte :=
  (List.range n).map fun i => byteAfter issued (a + BitVec.ofNat 40 i) (start (a + BitVec.ofNat 40 i)) h

/-! ## The terms -/

/-- Whether host memory performs the request at `j`, if it performs it, before the one at `k`: a write before everything issued
behind it, and every request before those issued behind a reset signal that follows it. A request issued after a read waits for
nothing of the read (R158, R163). -/
def servedBefore (issued : List PortMessage) (j k : Nat) : Bool :=
  decide (j < k) && ((issued[j]?.map isWriteRequest).getD false ||
    ((issued.drop j).take (k - j)).any fun m => decide (m = .resetSignal))

/-- Whether one event may stand ahead of another in a history: no request is performed twice, and the order of `servedBefore`
is kept. -/
def inServiceOrder (issued : List PortMessage) : HostEvent → HostEvent → Bool
  | .performs k _, .performs j _ => decide (j ≠ k) && !servedBefore issued j k
  | _, _ => true

/-- Whether an event is one of host memory: only an issued request is performed, and a write writes no byte whose enable is
clear; it writes any subset of the others, all of them where it is answered OK (R113, R158; `answerAllowed`). -/
def eventAllowed (issued : List PortMessage) : HostEvent → Bool
  | .otherWrites _ _ => true
  | .performs k bytes =>
    match issued[k]? with
    | some (.write _ _ _ enables _) => decide (bytes &&& ~~~enables = 0)
    | some (.walkRead _ _) => true
    | some (.read _ _ _) => true
    | some .resetSignal => false
    | none => false

/-- The history keeps the terms of R158 on the order and the effect of requests. -/
def HostTerms (issued : List PortMessage) (h : List HostEvent) : Prop :=
  h.Pairwise (fun x y => inServiceOrder issued x y = true) ∧ ∀ e ∈ h, eventAllowed issued e = true

/-- The answer is one that host memory may give to the request at a place: ERROR to any request; OK to a write that it has
performed with every enabled byte, without data; OK to a read with exactly the bytes asked for, as memory held them when it
performed the read (R158). Answers come in any order. -/
def answerAllowed (issued : List PortMessage) (start : MemAddr → Byte) (h : List HostEvent) (k : Nat) (ans : Answer) : Prop :=
  match issued[k]?, ans with
  | none, _ => False
  | some m, .error => m ≠ .resetSignal
  | some (.write _ _ _ enables _), .ok data => data = [] ∧ .performs k enables ∈ h
  | some m, .ok data => ∃ a n h₁ bytes h₂, askedBytes m = some (a, n) ∧ h = h₁ ++ .performs k bytes :: h₂ ∧
      data = bytesAfter issued start h₁ a n

/-- Host memory may answer so under a port tag now, under the terms of R158, after a history that began with `start`. The answers
of a run keep the terms together when the history of each continues that of the one before. -/
def State.mayAnswer (s : State) (start : MemAddr → Byte) (h : List HostEvent) (t : PortTagId) (ans : Answer) : Prop :=
  HostTerms s.portOut h ∧ ∃ k, s.owed t = some k ∧ answerAllowed s.portOut start h k ans

end Sys2Proof.Machine
end

