-- ==== Sys2Proof/Safety.lean ====
section
/-! DEFINITION. What counts as a sound state: the laws that the manual says the blocks keep, each as a predicate of the state. A
law is stated over every state, not only over those a run from reset reaches; where one needs another to be kept, the two stand
together. -/

namespace Sys2Proof.Machine

/-- Every step that answers a next state keeps the law. -/
def KeptByStep (law : State → Prop) : Prop := ∀ s s' : State, law s → step s = .next s' → law s'

/-! ## Capacities -/

/-- The collections stay within their capacities (R68, R87, R89, R107, R123). -/
def CapacityLaw (s : State) : Prop :=
  s.tc.length ≤ 32 ∧ s.pins ≤ 24 ∧ s.walks.length ≤ 4 ∧ s.parkedCount ≤ 8 ∧ s.pwq.length ≤ 8 ∧ s.rdt.length ≤ 8

/-! ## Apertures and views -/

/-- One past the last link address of an aperture in a view. -/
def State.viewEnd (s : State) (i : ApIndex) : Nat :=
  match grantOf (s.apertures.get i) with
  | some g => rangeEnd g
  | none => 0

/-- The base a grant holds is aligned and its region or page map fits host memory addressing (R1, R21). -/
def baseFits (g : Grant) : Prop :=
  match g.base with
  | .direct m => m.toNat % 4096 = 0 ∧ m.toNat + g.pages * 4096 ≤ 2 ^ 40
  | .mapped m => m.toNat % 8 = 0 ∧ m.toNat + 8 * g.pages ≤ 2 ^ 40

/-- A grant's fields have the values R1 and R21 let them have. -/
def grantFits (g : Grant) : Prop :=
  g.linkBase.toNat % 4096 = 0 ∧ 1 ≤ g.pages ∧ g.pages ≤ 65536 ∧ rangeEnd g ≤ 2 ^ 32 ∧ baseFits g

/-- An aperture is in its owner's view and in no other exactly while it is not FREE; each view is in order of link base and its
ranges are pairwise disjoint; every grant's fields have legal values (R1, R6). -/
def ApertureLaw (s : State) : Prop :=
  (∀ (r : RequesterId) (i : ApIndex), i ∈ s.views.get r ↔ (grantOf (s.apertures.get i)).map Grant.owner = some r) ∧
  (∀ r : RequesterId, (s.views.get r).Pairwise fun i j => s.viewEnd i ≤ s.viewBase j) ∧
  (∀ (i : ApIndex) (g : Grant), grantOf (s.apertures.get i) = some g → grantFits g)

/-! ## Requesters -/

/-- The fault count lies between 0 and 255 and is 0 exactly when no first fault is held (R34). -/
def FaultCountLaw (s : State) : Prop :=
  ∀ r : RequesterId, (s.requesters.get r).faultCount ≤ 255 ∧
    ((s.requesters.get r).faultCount = 0 ↔ (s.requesters.get r).firstFault = none)

/-- A requester that is not ENABLED has no parked transaction (R31). -/
def ParkedLaw (s : State) : Prop :=
  ∀ w ∈ s.walks, ∀ p ∈ w.waiters, (s.requesters.get p.requester).state = .enabled

/-- The byte enables of a parked WRITE are clear outside its range (R47, R89). -/
def ParkedFormLaw (s : State) : Prop := ∀ w ∈ s.walks, ∀ p ∈ w.waiters, maskEnables p = p

/-- A parked transaction stands on a walk of a LIVE aperture of its own requester, so that the waiters of one walk are all of one
requester (R8, R87). -/
def WaiterLaw (s : State) : Prop :=
  ∀ w ∈ s.walks, ∀ q ∈ w.waiters, ∃ g, (s.apertures.get w.aperture).life = .live g ∧ g.owner = q.requester

/-! ## Link tags and port tags -/

/-- How many parked transactions and reads whose discard flag is clear hold a link tag (R49). -/
def State.tagHolders (s : State) (r : RequesterId) (t : LinkTag) : Nat :=
  (s.walks.flatMap Walk.waiters).countP (fun p => decide (p.requester = r) && decide (p.tag = t)) +
  s.rdt.countP (fun d => !d.discard && decide (d.requester = r) && decide (d.tag = t))

/-- Between events a BUSY link tag is held by exactly one parked transaction or undiscarded read, and a FREE one by none (R49,
R50). -/
def LinkTagLaw (s : State) : Prop :=
  ∀ (r : RequesterId) (t : LinkTag), s.tagHolders r t = if s.linkTag r t = .busy then 1 else 0

/-- The kind of the request outstanding under a port tag. -/
def tagKind : PortTag → Option PortKind
  | .busy k _ => some k
  | .free => none
  | .quarantined => none

/-- How many walks, posted writes or reads hold a port tag. -/
def State.owners (s : State) (t : PortTagId) : PortKind → Nat
  | .walk => s.walks.countP (Walk.holdsTag t)
  | .write => s.pwq.countP (PostedWrite.holdsTag t)
  | .read => s.rdt.countP (ReadEntry.holdsTag t)

/-- A BUSY port tag has exactly one owner, of its kind; a FREE or QUARANTINED one has none (R154). -/
def PortTagLaw (s : State) : Prop :=
  ∀ (t : PortTagId) (k : PortKind), s.owners t k = if tagKind (s.portTags.get t) = some k then 1 else 0

/-- The request that an ISSUED walk, posted write or read waits for is the last one that the port issued under its tag (R94, R111,
R128, R156). -/
def OutstandingLaw (s : State) : Prop :=
  (∀ w ∈ s.walks, ∀ p, w.state = .issued p → s.lastRequest p = some (.walkRead p w.entryAddr)) ∧
  (∀ e ∈ s.pwq, ∀ p, e.state = .issued p → s.lastRequest p = some (.write p e.memAddr e.length e.enables e.data)) ∧
  (∀ d ∈ s.rdt, ∀ p, d.state = .issued p → s.lastRequest p = some (.read p d.memAddr d.length))

/-! ## The queue and the tracker -/

/-- Every ISSUED posted write stands ahead of every QUEUED one (R107). -/
def QueueOrderLaw (s : State) : Prop := s.pwq.Pairwise fun a b => a.isQueued = true → b.isQueued = true

/-- The holding writes of every read are exactly the posted writes still in the queue that are older than the read and meet its
ordering; a read is in ORDER_WAIT exactly while it has one; entries are numbered in order of acceptance and creation (R122,
R125 to R127). -/
def ReadOrderLaw (s : State) : Prop :=
  (s.pwq.Pairwise fun a b => a.seq < b.seq) ∧
  (∀ e ∈ s.pwq, e.seq < s.nextSeq) ∧
  (∀ d ∈ s.rdt, d.seq < s.nextSeq) ∧
  (∀ d ∈ s.rdt, d.state = .orderWait ↔ d.holding ≠ []) ∧
  (∀ d ∈ s.rdt, ∀ k ∈ d.holding, ∃ e ∈ s.pwq, e.seq = k) ∧
  (∀ d ∈ s.rdt, ∀ e ∈ s.pwq,
    e.seq ∈ d.holding ↔ e.seq < d.seq ∧ holdsRead d.ordering d.requester d.memAddr e = true)

/-! ## Translations -/

/-- The address of the page map entry of a page of a LIVE MAPPED aperture in a generation (R12). -/
def State.mapAddr (s : State) (a : ApIndex) (gen : Generation) (page : Nat) : Option MemAddr :=
  match liveGrant (s.apertures.get a) with
  | none => none
  | some g =>
    match g.base with
    | .direct _ => none
    | .mapped m =>
      if (s.apertures.get a).generation = gen ∧ page < g.pages then some (entryAddrOf m page) else none

/-- Every cache entry and every walk that is not orphaned names a page of a LIVE MAPPED aperture in its current generation; an
orphaned walk is ISSUED and holds neither waiters nor a preload waiter; no page has two entries, two walks that are not
orphaned, or one of each (R68, R69, R74, R87, R89, R93). -/
def TranslationLaw (s : State) : Prop :=
  (∀ e ∈ s.tc, (s.mapAddr e.aperture e.generation e.page).isSome = true) ∧
  (∀ w ∈ s.walks, w.orphaned = false → s.mapAddr w.aperture w.generation w.page = some w.entryAddr) ∧
  (∀ w ∈ s.walks, w.orphaned = true → w.waiters = [] ∧ w.preload = none ∧ w.state ≠ .waitingTag) ∧
  (s.tc.Pairwise fun e f => ¬(e.aperture = f.aperture ∧ e.page = f.page)) ∧
  (s.walks.Pairwise fun w v =>
    w.orphaned = false → v.orphaned = false → ¬(w.aperture = v.aperture ∧ w.page = v.page)) ∧
  (∀ e ∈ s.tc, ∀ w ∈ s.walks, w.orphaned = false → ¬(e.aperture = w.aperture ∧ e.page = w.page))

/-! ## Commands -/

/-- Whether a slot's command has been started and has not ended. -/
def started (st : SlotState) : Prop := st = .pending ∨ st = .running ∨ st = .waiting

/-- The submission list holds the PENDING, RUNNING and WAITING slots, each once; behind any slot of a target only PENDING slots of
that target stand; the status names a reason exactly in FAILED, and the qualifier reads TIMEOUT only with WALK_ERROR (R165,
R169, R170). -/
def CommandLaw (s : State) : Prop :=
  s.submission.Nodup ∧
  (∀ n : SlotId, n ∈ s.submission ↔ started (s.slots.get n).state) ∧
  (s.submission.Pairwise fun m n =>
    slotTarget (s.slots.get m) ≠ none → slotTarget (s.slots.get m) = slotTarget (s.slots.get n) →
      (s.slots.get n).state = .pending) ∧
  (∀ n : SlotId, (s.slots.get n).status = .none ↔ (s.slots.get n).state ≠ .failed) ∧
  (∀ n : SlotId, (s.slots.get n).qualifier = .timeout → (s.slots.get n).status = .walkError)

/-- A walk's preload waiter is a RUNNING TC_PRELOAD of the walk's aperture and page, with the pin request of its word 0; no two
walks carry the same one, and every RUNNING slot is the preload waiter of a walk (R81, R82, R93). -/
def PreloadLaw (s : State) : Prop :=
  (∀ w ∈ s.walks, ∀ n pin, w.preload = some (n, pin) →
    (s.slots.get n).state = .running ∧ slotCommand (s.slots.get n) = some .tcPreload ∧
    slotAperture (s.slots.get n) = some w.aperture ∧ (slotWord (s.slots.get n) 1).toNat = w.page ∧
    (slotWord (s.slots.get n) 0).getLsbD 27 = pin) ∧
  (s.walks.Pairwise fun w v => ∀ n pin pin', w.preload = some (n, pin) → v.preload ≠ some (n, pin')) ∧
  (∀ n : SlotId, (s.slots.get n).state = .running → ∃ w ∈ s.walks, ∃ pin, w.preload = some (n, pin))

/-- A slot is WAITING exactly while some posted write or read bears its mark (R138). -/
def DrainLaw (s : State) : Prop := ∀ n : SlotId, s.bears n = true ↔ (s.slots.get n).state = .waiting

/-- Whether a slot is the WAITING AP_RETIRE of an aperture. -/
def State.retires (s : State) (n : SlotId) (a : ApIndex) : Prop :=
  (s.slots.get n).state = .waiting ∧ slotCommand (s.slots.get n) = some .apRetire ∧ slotAperture (s.slots.get n) = some a

/-- Whether a slot is the WAITING REQ_HALT of a requester. -/
def State.halts (s : State) (n : SlotId) (r : RequesterId) : Prop :=
  (s.slots.get n).state = .waiting ∧ slotCommand (s.slots.get n) = some .reqHalt ∧ slotRequester (s.slots.get n) = some r

/-- No posted write or read names a FREE aperture; a RETIRING aperture has a WAITING AP_RETIRE whose mark every posted write and
read that names it bears; and each WAITING AP_RETIRE is the one of a RETIRING aperture (R4, R17, R136, R141, R143). -/
def RetireLaw (s : State) : Prop :=
  (∀ a : ApIndex, (s.apertures.get a).life = .free →
    (∀ e ∈ s.pwq, e.aperture ≠ a) ∧ (∀ d ∈ s.rdt, d.aperture ≠ a)) ∧
  (∀ (a : ApIndex) (g : Grant), (s.apertures.get a).life = .retiring g → ∃ n : SlotId, s.retires n a ∧
    (∀ e ∈ s.pwq, e.aperture = a → e.marks.get n = true) ∧ (∀ d ∈ s.rdt, d.aperture = a → d.marks.get n = true)) ∧
  (∀ n : SlotId, (s.slots.get n).state = .waiting → slotCommand (s.slots.get n) = some .apRetire →
    ∃ (a : ApIndex) (g : Grant), slotAperture (s.slots.get n) = some a ∧ (s.apertures.get a).life = .retiring g) ∧
  (∀ (m n : SlotId) (a : ApIndex), s.retires m a → s.retires n a → m = n)

/-- A HALTED requester has no posted write, no read and no parked transaction; a HALTING one has a WAITING REQ_HALT whose mark
all its posted writes and reads bear; and each WAITING REQ_HALT is the one of a HALTING requester (R43, R136, R149). -/
def HaltLaw (s : State) : Prop :=
  (∀ r : RequesterId, (s.requesters.get r).state = .halted →
    (∀ e ∈ s.pwq, e.requester ≠ r) ∧ (∀ d ∈ s.rdt, d.requester ≠ r) ∧ s.parkedOf r = []) ∧
  (∀ r : RequesterId, (s.requesters.get r).state = .halting → ∃ n : SlotId, s.halts n r ∧
    (∀ e ∈ s.pwq, e.requester = r → e.marks.get n = true) ∧ (∀ d ∈ s.rdt, d.requester = r → d.marks.get n = true)) ∧
  (∀ n : SlotId, (s.slots.get n).state = .waiting → slotCommand (s.slots.get n) = some .reqHalt →
    ∃ r : RequesterId, slotRequester (s.slots.get n) = some r ∧ (s.requesters.get r).state = .halting) ∧
  (∀ (m n : SlotId) (r : RequesterId), s.halts m r → s.halts n r → m = n)

/-! ## RESET_N -/

/-- The part after a reset, with the pin, the records of what was sent, the free values' index and the queue of commands of `s`. -/
def State.asReset (s : State) : State :=
  { State.reset with
    resetLow := s.resetLow
    linkOut := s.linkOut
    portOut := s.portOut
    freeCount := s.freeCount
    pending := s.pending }

/-- While RESET_N is low every block holds its reset values (R66, R176). -/
def ResetHeldLaw (s : State) : Prop := s.resetLow = true → s = s.asReset

/-! ## The words of the statements -/

/-- `x` is the first entry of `l` that meets `p`; `l₁` stands before it and `l₂` behind it. -/
def FirstOf {α : Type} (p : α → Bool) (l l₁ : List α) (x : α) (l₂ : List α) : Prop :=
  l = l₁ ++ x :: l₂ ∧ (∀ y ∈ l₁, p y = false) ∧ p x = true

/-- The next take takes slot `n`, and the slot holds command `c` (R170). -/
def State.takes (s : State) (n : SlotId) (c : Option Command) : Prop :=
  s.nextTake = some n ∧ slotCommand (s.slots.get n) = c

/-- `s` with one response sent under a tag that is FREE before and after (R48, R49). -/
def State.withSent (s : State) (r : RequesterId) (t : LinkTag) (x : LinkReply) : State :=
  { s with linkOut := s.linkOut ++ [{ requester := r, tag := t, reply := x }] }

/-- The responses that answer some requests with the same contents, in order. -/
def repliesTo (x : LinkReply) (ps : List Request) : List LinkResponse :=
  ps.map fun p => { requester := p.requester, tag := p.tag, reply := x }

/-- The link tags of `t` are those of `s` with the tags of some requests FREE. -/
def TagsFreed (s t : State) (ps : List Request) : Prop :=
  ∀ (r : RequesterId) (g : LinkTag),
    t.linkTag r g = if ps.any (fun p => decide (p.requester = r) && decide (p.tag = g)) then .free else s.linkTag r g

/-- From `s` to `t` each of some requests has been answered with the same contents, in order, its tag is FREE, and nothing else
was sent or freed (R48, R60). -/
def Answered (s t : State) (ps : List Request) (x : LinkReply) : Prop :=
  t.linkOut = s.linkOut ++ repliesTo x ps ∧ TagsFreed s t ps

/-- Walks whose waiters of one requester are gone (R31, R103). -/
def withoutWaitersOf (r : RequesterId) (ws : List Walk) : List Walk :=
  ws.map fun (w : Walk) => { w with waiters := w.waiters.filter fun p => decide (p.requester ≠ r) }

/-- `s` with the command in a slot ended: the slot's words, state, status and qualifier as given, and the slot off the
submission list (R169, R171). -/
def State.withEnd (s : State) (n : SlotId) (words : Vector Word 7) (st : SlotState) (code : Status) (q : Qualifier) : State :=
  { s with
    slots := s.slots.set n.val { state := st, words := words, status := code, qualifier := q } n.isLt
    submission := s.submission.filter fun m => decide (m ≠ n) }

/-- `s` with the command in a slot ended DONE (R165). -/
def State.withDone (s : State) (n : SlotId) (words : Vector Word 7) : State := s.withEnd n words .done .none .error

/-- `s` with the command in a slot ended FAILED with a status, its words kept (R165, R166). -/
def State.withFailed (s : State) (n : SlotId) (code : Status) : State :=
  s.withEnd n (s.slots.get n).words .failed code .error

/-- A slot's words with one of them replaced. -/
def Slot.wordsWith (sl : Slot) (k : Fin 7) (v : Word) : Vector Word 7 := sl.words.set k.val v k.isLt

/-- `s` with one requester record replaced. -/
def State.withRequester (s : State) (r : RequesterId) (q : Requester) : State :=
  { s with requesters := s.requesters.set r.val q r.isLt }

/-- `s` with one aperture record replaced. -/
def State.withAperture (s : State) (a : ApIndex) (x : Aperture) : State :=
  { s with apertures := s.apertures.set a.val x a.isLt }

/-- `s` with one port tag in another state. -/
def State.withPortTag (s : State) (p : PortTagId) (x : PortTag) : State :=
  { s with portTags := s.portTags.set p.val x p.isLt }

/-- A requester record after one more fault: the first one kept, the count one higher up to 255 (R34). -/
def Requester.withFault (q : Requester) (f : FaultRecord) (st : RequesterState) : Requester where
  state := st
  stopOnFault := q.stopOnFault
  firstFault := some (q.firstFault.getD f)
  faultCount := if q.firstFault = none then 1 else min (q.faultCount + 1) 255

/-- Whether a capture would stop the requester (R36). -/
abbrev Requester.stops (q : Requester) : Prop := q.state = .enabled ∧ q.stopOnFault = true

/-- From `s` to `t` a fault has been captured on requester `r`: its record has one fault more, and where the capture stops it,
its parked transactions have been answered ABORT STOPPED and are gone (R31, R34, R36). Nothing else has changed. -/
def Captured (s t : State) (r : RequesterId) (f : FaultRecord) : Prop :=
  ((s.requesters.get r).stops →
    Answered s t (s.parkedOf r) (.abort .stopped) ∧
    t = { s.withRequester r ((s.requesters.get r).withFault f .stopped) with
      walks := withoutWaitersOf r s.walks
      linkTags := t.linkTags
      linkOut := t.linkOut }) ∧
  (¬(s.requesters.get r).stops →
    t = s.withRequester r ((s.requesters.get r).withFault f (s.requesters.get r).state))

/-- The request passes checks 1 to 6 of its arrival and is found in aperture `a` with grant `g` (R51). -/
def State.passes (s : State) (q : Request) (a : ApIndex) (g : Grant) : Prop :=
  s.resetLow = false ∧ s.linkTag q.requester q.tag = .free ∧ inOneLine q = true ∧ s.linkEnable = true ∧
  (s.requesters.get q.requester).state = .enabled ∧ s.lookup q.requester q.addr = some (a, g) ∧
  permits g.access (direction q) = true

/-- The cache entry that serves a request found in aperture `a`, with the entries before and behind it (R72). -/
def State.hits (s : State) (q : Request) (a : ApIndex) (g : Grant) (l₁ : List TcEntry) (e : TcEntry) (l₂ : List TcEntry) : Prop :=
  FirstOf (TcEntry.isFor a (s.apertures.get a).generation (linkPage g q.addr)) s.tc l₁ e l₂

/-- The request is translated to memory address `m`, and the cache is `tc` afterwards: arithmetic for a DIRECT aperture (R11);
for a MAPPED one a hit whose page check passes, which moves the entry to the head (R13, R15, R56, R72). -/
def State.translates (s : State) (q : Request) (a : ApIndex) (g : Grant) (m : MemAddr) (tc : List TcEntry) : Prop :=
  match g.base with
  | .direct b => m.toNat = b.toNat + (q.addr.toNat - g.linkBase.toNat) ∧ tc = s.tc
  | .mapped _ => ∃ l₁ e l₂, s.hits q a g l₁ e l₂ ∧ tc = e :: (l₁ ++ l₂) ∧
      pagePermits e.readable e.writable (direction q) = true ∧ m.toNat = e.frame.toNat * 4096 + q.addr.toNat % 4096

/-- The posted write that a request makes when it is accepted at memory address `m` (R106, R108): the enables of the bytes
outside its range are clear (R47). -/
def IsPostedWrite (e : PostedWrite) (s : State) (q : Request) (a : ApIndex) (m : MemAddr) : Prop :=
  ∃ en data, q.payload = .write en data ∧ e.requester = q.requester ∧ e.aperture = a ∧ e.linkAddr = q.addr ∧
    e.length = q.length.toNat ∧ e.memAddr = m ∧ e.data = data ∧ e.state = .queued ∧ (∀ n, e.marks.get n = false) ∧
    e.seq = s.nextSeq ∧
    ∀ k : Fin 64, e.enables.getLsbD k.val =
      (en.getLsbD k.val && decide (q.addr.toNat % 64 ≤ k.val) && decide (k.val < q.addr.toNat % 64 + q.length.toNat))

/-- The read tracker entry that a request makes at memory address `m` with an ordering: it is held by the posted writes of its
requester, under LINE by those to its memory line alone, and READY at once if there is none (R122, R124, R125). -/
def IsTrackedRead (d : ReadEntry) (s : State) (q : Request) (a : ApIndex) (ord : ReadOrder) (m : MemAddr) : Prop :=
  d.requester = q.requester ∧ d.tag = q.tag ∧ d.aperture = a ∧ d.ordering = ord ∧ d.linkAddr = q.addr ∧ d.memAddr = m ∧
  d.length = q.length.toNat ∧ d.discard = false ∧ (∀ n, d.marks.get n = false) ∧ d.seq = s.nextSeq ∧
  (∀ k, k ∈ d.holding ↔ ∃ e ∈ s.pwq, e.seq = k ∧ e.requester = q.requester ∧
    (ord = .line → e.memAddr.toNat / 64 = m.toNat / 64)) ∧
  d.state = if d.holding = [] then .ready else .orderWait

/-- The grant that the operands of an AP_SET describe (R18, R177). -/
def describes (sl : Slot) (g : Grant) : Prop :=
  slotOwner sl = some g.owner ∧ g.linkBase = slotWord sl 1 ∧ g.pages = (slotWord sl 2).toNat ∧
  slotAccess sl = some g.access ∧ slotOrdering sl = some g.ordering ∧
  match g.base with
  | .direct b => slotMode sl = 1#2 ∧ b = slotBase sl
  | .mapped b => slotMode sl = 2#2 ∧ b = slotBase sl

/-- Some aperture of the owner's view, LIVE or RETIRING, shares a link address with the grant (R7, R22). -/
def State.overlapped (s : State) (g : Grant) : Prop :=
  ∃ i ∈ s.views.get g.owner, ∃ h, grantOf (s.apertures.get i) = some h ∧
    ∃ x : LinkAddr, inRange g x = true ∧ inRange h x = true

/-- A posted write's marks with a slot added where it is in the scope of a take (R136). -/
def markWrites (n : SlotId) (p : PostedWrite → Bool) (l : List PostedWrite) : List PostedWrite :=
  l.map fun e => if p e then { e with marks := addMark n e.marks } else e

/-- A read's marks with a slot added where it is in the scope of a take (R136). -/
def markReads (n : SlotId) (p : ReadEntry → Bool) (l : List ReadEntry) : List ReadEntry :=
  l.map fun d => if p d then { d with marks := addMark n d.marks } else d

/-- What an orphaning take leaves of the walks in its scope: those in WAITING_TAG are gone, the ISSUED ones are orphaned and
hold nothing (R101). -/
def orphaned (p : Walk → Bool) (ws : List Walk) : List Walk :=
  ws.filterMap fun w =>
    if p w then
      match w.state with
      | .waitingTag => none
      | .issued _ => some { w with orphaned := true, waiters := [], preload := none }
    else some w

/-- The reads after a posted write has left: it holds none of them any longer, and a read in ORDER_WAIT that no write holds is
READY (R126). -/
def freed (k : Nat) (l : List ReadEntry) : List ReadEntry :=
  l.map fun d => { d with
    holding := d.holding.filter fun j => decide (j ≠ k)
    state := if d.state = .orderWait ∧ (d.holding.filter fun j => decide (j ≠ k)) = [] then .ready else d.state }

/-- `s` after a grant of tag `p` to the posted write `e` between `l₁` and `l₂` (R111, R156). -/
def State.withWriteIssued (s : State) (p : PortTagId) (l₁ : List PostedWrite) (e : PostedWrite) (l₂ : List PostedWrite) : State :=
  { s.withPortTag p (.busy .write 0) with
    pwq := l₁ ++ { e with state := .issued p } :: l₂
    portOut := s.portOut ++ [.write p e.memAddr e.length e.enables e.data] }

/-- `s` after a grant of tag `p` to the read `d` between `l₁` and `l₂` (R128, R156). -/
def State.withReadIssued (s : State) (p : PortTagId) (l₁ : List ReadEntry) (d : ReadEntry) (l₂ : List ReadEntry) : State :=
  { s.withPortTag p (.busy .read 0) with
    rdt := l₁ ++ { d with state := .issued p } :: l₂
    portOut := s.portOut ++ [.read p d.memAddr d.length] }

/-- The request under port tag `p` has reached the response limit in force (R160). -/
def State.overdue (s : State) (time : Nat) : Prop := s.responseLimit ≠ 0 ∧ s.responseLimit.toNat ≤ time

/-- Command `c` ends the request outstanding under port tag `p`, whose time since issue is `time`: with an OK answer, an ERROR answer
(a failure with qualifier ERROR) or an expiry at the limit (with TIMEOUT). The tag is in state `tag` afterwards (R159, R161). -/
def State.endsRequest (s : State) (p : PortTagId) (time : Nat) (c : Instr) (tag : PortTag) (failure : Option Qualifier) : Prop :=
  (∃ data, c = .answer p (.ok data) ∧ tag = .free ∧ failure = none) ∨
  (c = .answer p .error ∧ tag = .free ∧ failure = some .error) ∨
  (c = .expiry p ∧ s.overdue time ∧ tag = .quarantined ∧ failure = some .timeout)

/-- From `s` to `u` the posted write `e` between `l₁` and `l₂` has left the queue and its port tag `p` is in state `tag`; the reads it
held are freed, nothing is sent, and a loss is captured on its requester. No command has been told yet (R115 to R117, R126). -/
def WriteLeft (s u : State) (p : PortTagId) (tag : PortTag) (failure : Option Qualifier) (l₁ : List PostedWrite) (e : PostedWrite)
    (l₂ : List PostedWrite) : Prop :=
  match failure with
  | none => u = { s.withPortTag p tag with pwq := l₁ ++ l₂, rdt := freed e.seq s.rdt }
  | some q => Captured { s.withPortTag p tag with pwq := l₁ ++ l₂, rdt := freed e.seq s.rdt } u e.requester
      (.writeLost q e.linkAddr e.aperture)

/-- From `s` to `u`, on command `c`, the read `d` between `l₁` and `l₂` has left the tracker and its port tag `p` is in state `tag`.
Unless its discard flag is set it is answered, DATA with the bytes of an OK answer or ABORT MEMORY_ERROR, and its link tag is
FREE; a failure is captured on its requester either way. No command has been told yet (R129 to R131; missing bytes: log 5). -/
def ReadLeft (s u : State) (c : Instr) (p : PortTagId) (tag : PortTag) (failure : Option Qualifier) (l₁ : List ReadEntry)
    (d : ReadEntry) (l₂ : List ReadEntry) : Prop :=
  match failure with
  | none => ∀ data, c = .answer p (.ok data) → ∃ (bytes : List Byte) (k : Nat), bytes.length = d.length ∧
      (∀ i < d.length, i < data.length → bytes[i]? = data[i]?) ∧ (d.length ≤ data.length → k = s.freeCount) ∧
      u = if d.discard = true then { s.withPortTag p tag with rdt := l₁ ++ l₂, freeCount := k }
        else { (s.withPortTag p tag).respond d.requester d.tag (.data bytes) with rdt := l₁ ++ l₂, freeCount := k }
  | some q => Captured
      (if d.discard = true then { s.withPortTag p tag with rdt := l₁ ++ l₂ }
      else { (s.withPortTag p tag).respond d.requester d.tag (.abort .memoryError) with rdt := l₁ ++ l₂ })
      u d.requester (.memoryError q d.linkAddr d.aperture)

/-- From `u` to `t` the slots of a departed entry's mark set have been told, and nothing else has happened. Only they may change,
and of the rest only what the commands in them drain: their aperture's record and its place in a view, their requester's state,
their place on the submission list (R137, R138). What becomes of each is `Told`. -/
def OnlyToldSlots (u t : State) (marks : MarkSet) : Prop :=
  t = { u with
    slots := t.slots
    submission := t.submission
    apertures := t.apertures
    views := t.views
    requesters := t.requesters } ∧
  (∀ n, marks.get n = true ∧ (u.slots.get n).state = .waiting ∨
    t.slots.get n = u.slots.get n ∧ (n ∈ t.submission ↔ n ∈ u.submission)) ∧
  t.submission.Sublist u.submission ∧
  (∀ a, (∃ n, marks.get n = true ∧ u.retires n a) ∨
    t.apertures.get a = u.apertures.get a ∧ ∀ r, a ∈ t.views.get r ↔ a ∈ u.views.get r) ∧
  (∀ r, (t.views.get r).Sublist (u.views.get r)) ∧
  (∀ r, t.requesters.get r = { u.requesters.get r with state := (t.requesters.get r).state } ∧
    ((∃ n, marks.get n = true ∧ u.halts n r) ∨ t.requesters.get r = u.requesters.get r))

/-- A slot's words after an entry that bears its mark has left: one loss more in word 5 for a departure in error, but for
REQ_HALT, which keeps no loss count (R137, R152). -/
def lossWords (sl : Slot) (lost : Bool) : Vector Word 7 :=
  if lost = true ∧ slotCommand sl ≠ some .reqHalt then sl.wordsWith 5 (slotWord sl 5 + 1) else sl.words

/-- From `s` to `t` the WAITING command in slot `n` has been told of the departure of an entry that bears its mark. While another
entry bears it (`held`), the slot stays WAITING in its place with the loss counted, and the aperture or requester that it drains
stays as it is. Otherwise the command is DONE and off the submission list: a retirement has freed its aperture, with the next generation in
the record and in word 6, and taken it out of its owner's view; a halt has made its requester HALTED; any other command has the
loss count alone (R43, R137, R138, R143, R147, R150, R152). -/
def Told (s t : State) (n : SlotId) (lost : Bool) (held : Prop) : Prop :=
  (held →
    t.slots.get n = { s.slots.get n with words := lossWords (s.slots.get n) lost } ∧ (n ∈ t.submission ↔ n ∈ s.submission) ∧
    (∀ a, s.retires n a → t.apertures.get a = s.apertures.get a) ∧
    (∀ r, s.halts n r → (t.requesters.get r).state = (s.requesters.get r).state)) ∧
  (¬held →
    n ∉ t.submission ∧ ∃ words,
      t.slots.get n = { state := .done, words := words, status := .none, qualifier := .error } ∧
      (slotCommand (s.slots.get n) ≠ some .apRetire → words = lossWords (s.slots.get n) lost) ∧
      (∀ a g, s.retires n a → (s.apertures.get a).life = .retiring g →
        words = (lossWords (s.slots.get n) lost).set 6 (((s.apertures.get a).generation + 1).setWidth 32) ∧
        t.apertures.get a = { generation := (s.apertures.get a).generation + 1, life := .free } ∧
        a ∉ t.views.get g.owner) ∧
      (∀ r, s.halts n r → (t.requesters.get r).state = .halted))

/-! ## The completion of a walk -/

/-- `tc` is the cache of `s` after the installation of a walk's valid page map entry as `e`: at the head, a full cache losing its
unpinned entry furthest from the head, pinned where the walk carries a pin request and fewer than 24 entries are pinned (R74 to
R76). -/
def Installs (s : State) (w : Walk) (pe : PageEntry) (e : TcEntry) (tc : List TcEntry) : Prop :=
  e.aperture = w.aperture ∧ e.generation = w.generation ∧ e.page = w.page ∧ e.frame = pe.frame ∧
  e.readable = pe.readable ∧ e.writable = pe.writable ∧
  (e.pinned = true ↔ (∃ n, w.preload = some (n, true)) ∧ s.tc.countP (fun x => x.pinned) < 24) ∧
  (s.tc.length < 32 → tc = e :: s.tc) ∧
  (32 ≤ s.tc.length → ∀ m₁ v m₂, s.tc = m₁ ++ v :: m₂ → v.pinned = false → (∀ x ∈ m₂, x.pinned = true) →
    tc = e :: (m₁ ++ m₂))

/-- `s` with the preload that a completed walk carries ended, if it carries one: PIN_LIMIT where its pin was asked for and refused,
DONE with INSTALLED in word 5 otherwise (R82). -/
def State.withPreloadEnd (s : State) (w : Walk) (e : TcEntry) : State :=
  match w.preload with
  | none => s
  | some (n, pin) =>
    if pin = true ∧ e.pinned = false then s.withFailed n .pinLimit else s.withDone n ((s.slots.get n).wordsWith 5 2)

/-- `s` with the preload that a failed walk carries ended FAILED, if it carries one: its words kept, with a status and a qualifier
(R82, R99, R100). -/
def State.withPreloadFailed (s : State) (w : Walk) (code : Status) (q : Qualifier) : State :=
  match w.preload with
  | none => s
  | some (n, _) => s.withEnd n (s.slots.get n).words .failed code q

/-- One waiter's turn in the resumption of a walk's waiters, from `s`, where it has left the park pool, to `u`. A page that refuses
its direction answers it ABORT PERMISSION, captured; else a WRITE is posted and answered ACCEPT, or told QUEUE_FULL, and a READ is
tracked under its tag, or told TRACKER_FULL, at the address that the answer's frame gives (R97). -/
def ResumedTurn (pe : PageEntry) (a : ApIndex) (g : Grant) (q : Request) (s u : State) : Prop :=
  ∃ m : MemAddr, m.toNat = pe.frame.toNat * 4096 + q.addr.toNat % 4096 ∧
  (pagePermits pe.readable pe.writable (direction q) = false →
    Captured (s.respond q.requester q.tag (.abort .permission)) u q.requester (.permission (direction q) q.addr a)) ∧
  (pagePermits pe.readable pe.writable (direction q) = true →
    (direction q = .write → s.pwq.length < 8 → ∃ e, IsPostedWrite e s q a m ∧
      u = { s.respond q.requester q.tag .accept with pwq := s.pwq ++ [e], nextSeq := s.nextSeq + 1 }) ∧
    (direction q = .write → 8 ≤ s.pwq.length → u = s.respond q.requester q.tag (.retry .queueFull)) ∧
    (direction q = .read → s.rdt.length < 8 → ∃ d, IsTrackedRead d s q a g.ordering m ∧
      u = { s with rdt := s.rdt ++ [d], nextSeq := s.nextSeq + 1 }) ∧
    (direction q = .read → 8 ≤ s.rdt.length → u = s.respond q.requester q.tag (.retry .trackerFull)))

/-- The resumption of the waiters of the walk that holds port tag `p`, from `s` to `t`: while it has waiters the oldest takes its
turn, which sees what the turns before it left, and at the end the record is removed. A turn whose capture stops the requester
has taken the waiters behind it (R90, R96 to R98). -/
inductive Resumes (p : PortTagId) (pe : PageEntry) (a : ApIndex) (g : Grant) : State → State → Prop where
  | ended {s : State} {l₁ : List Walk} {w : Walk} {l₂ : List Walk} :
      FirstOf (Walk.holdsTag p) s.walks l₁ w l₂ → w.waiters = [] → Resumes p pe a g s { s with walks := l₁ ++ l₂ }
  | turn {s u t : State} {l₁ : List Walk} {w : Walk} {l₂ : List Walk} {q : Request} {qs : List Request} :
      FirstOf (Walk.holdsTag p) s.walks l₁ w l₂ → w.waiters = q :: qs →
      ResumedTurn pe a g q { s with walks := l₁ ++ { w with waiters := qs } :: l₂ } u → Resumes p pe a g u t →
      Resumes p pe a g s t

/-! ## Resets -/

/-- Command `c` performs a part reset: PART_RESET, or, while RESET_N is high, a write of CONTROL with SOFT_RESET set, under either
name of the write (log 13) or as the four bytes of the word at 0x004 (log 9; R174, R176). -/
def State.resetsBy (s : State) : Instr → Prop
  | .partReset _ => True
  | .softReset v => s.resetLow = false ∧ v.getLsbD 1 = true
  | .linkEnable v => s.resetLow = false ∧ v.getLsbD 1 = true
  | .registerWrite off bytes =>
    s.resetLow = false ∧ off = 0x004 ∧ ∃ b₀ b₁ b₂ b₃, bytes = [b₀, b₁, b₂, b₃] ∧ b₀.getLsbD 1 = true
  | _ => False

/-! ## The laws together -/

/-- Every law of this file. -/
def Sound (s : State) : Prop :=
  CapacityLaw s ∧ ApertureLaw s ∧ FaultCountLaw s ∧ ParkedLaw s ∧ ParkedFormLaw s ∧ WaiterLaw s ∧ LinkTagLaw s ∧
  PortTagLaw s ∧ OutstandingLaw s ∧ QueueOrderLaw s ∧ ReadOrderLaw s ∧ TranslationLaw s ∧ CommandLaw s ∧ PreloadLaw s ∧
  DrainLaw s ∧ RetireLaw s ∧ HaltLaw s ∧ ResetHeldLaw s

end Sys2Proof.Machine
end

