-- ==== Sys2Proof/WellFormed.lean ====
section
/-! DEFINITION. Which commands are as the interfaces deliver them: a WRITE carries `length` bytes, a written word is one that
the row's name speaks of, a window access lies in the window. -/

namespace Sys2Proof

/-- The action field of a word written to word 7, bits 24 to 25 (Slot words 0 and 7). -/
def writtenAction (v : Word) : BitVec 2 := v.extractLsb' 24 2

/-- A WRITE carries exactly `length` bytes (R47). -/
def Request.wellFormed (q : Request) : Bool :=
  match q.payload with
  | .read => true
  | .write _ data => data.length == q.length.toNat

/-- The check of one command. -/
def Instr.wellFormed : Instr → Bool
  | .arrival q => q.wellFormed
  | .linkReset => true
  | .partReset _ => true
  | .answer _ (.ok data) => decide (data.length ≤ 64)
  | .answer _ .error => true
  | .expiry _ => true
  | .grant _ => true
  | .apSet => true
  | .apRetire => true
  | .apInvalidate => true
  | .queryAperture => true
  | .reqEnable => true
  | .reqDisable => true
  | .reqHalt => true
  | .reqResume => true
  | .faultClear => true
  | .queryRequester => true
  | .tcPreload => true
  | .tcUnpin => true
  | .queryTc => true
  | .flush => true
  | .badOp => true
  | .apRetireCompletion _ => true
  | .apInvalidateCompletion _ => true
  | .flushCompletion _ => true
  | .reqHaltCompletion _ => true
  | .tcPreloadCompletion _ _ => true
  | .start _ v => writtenAction v == 1#2
  | .ack _ v => writtenAction v == 2#2
  | .slotWordWrite _ _ _ => true
  | .linkEnable v => !v.getLsbD 1
  | .softReset v => v.getLsbD 1
  | .intStatusWrite _ => true
  | .intEnableWrite _ => true
  | .responseLimitWrite _ => true
  | .registerWrite off bytes => !bytes.isEmpty && decide (off.toNat + bytes.length ≤ 4096)
  | .resetNRelease => true
  | .word7Action3 _ v => writtenAction v == 3#2

end Sys2Proof
end

