-- ==== Sys2Proof/Certificates/Slice0/Obligations.lean ====
section
/-! DEFINITION. The statements for the provers. A take's statements speak of the slot `n` that the next take takes
(`State.takes`); the words they use stand in Sys2Proof/Safety.lean. -/

open Sys2Proof Sys2Proof.Machine

/-! ## The step, time and reset -/

/-- A step runs the command at the front of the queue on the queue's rest. The queue is the model's own (log 12). -/
def Obligations.StepRunsTheFrontCommand : Prop :=
  ∀ (s : State) (c : Instr) (rest : List Instr), s.pending = c :: rest → step s = exec c { s with pending := rest }

/-- With no command waiting a step lets one microsecond of the reference clock pass: each BUSY port tag counts it, every other
tag and all else stays. That time passes then is the model's choice (log 3); that BUSY tags count is R160. -/
def Obligations.EmptyQueueStepCountsOneMicrosecond : Prop :=
  ∀ s : State, s.pending = [] → ∃ t, step s = .next t ∧
    (∀ (p : PortTagId) (k : PortKind) (n : Nat), s.portTags.get p = .busy k n → t.portTags.get p = .busy k (n + 1)) ∧
    (∀ p : PortTagId, tagKind (s.portTags.get p) = none → t.portTags.get p = s.portTags.get p) ∧
    t = { s with portTags := t.portTags }

/-- The values after a part reset, record by record (R5, R28, R49, R86, R105, R121, R135, R160, R163, R165, R174, R176). -/
def Obligations.ResetStateHoldsTheManualsValues : Prop :=
  (∀ a : ApIndex, State.reset.apertures.get a = { generation := 0, life := .free }) ∧
  (∀ r : RequesterId, State.reset.views.get r = [] ∧
    State.reset.requesters.get r = { state := .disabled, stopOnFault := false, firstFault := none, faultCount := 0 }) ∧
  (∀ (r : RequesterId) (g : LinkTag), State.reset.linkTag r g = .free) ∧
  State.reset.tc = [] ∧ State.reset.walks = [] ∧ State.reset.pwq = [] ∧ State.reset.rdt = [] ∧
  (∀ p : PortTagId, State.reset.portTags.get p = .free) ∧ State.reset.contest = .pwq ∧ State.reset.responseLimit = 1000 ∧
  (∀ n : SlotId, (State.reset.slots.get n).state = .free ∧ (State.reset.slots.get n).status = .none ∧
    ∀ k : Fin 7, slotWord (State.reset.slots.get n) k = 0) ∧
  State.reset.submission = [] ∧ State.reset.submitError = false ∧ State.reset.intEnable = 0 ∧
  State.reset.linkEnable = false ∧ intStatus State.reset = 0 ∧ intNLow State.reset = false

/-- Every law of Sys2Proof/Safety.lean holds after reset. -/
def Obligations.ResetStateMeetsEveryLaw : Prop := Sound State.reset

/-- RESET_N low, power-on and a write of CONTROL with SOFT_RESET set leave the part as after reset, whatever it held, and signal
the reset on the host memory port (R163, R174, R176). That the pin, the record of the messages sent, the free values' index and
the queue are no state a reset reaches is the model's choice (logs 4, 5, 7). -/
def Obligations.PartResetGivesTheResetState : Prop :=
  ∀ s : State,
    exec (.partReset .resetNLow) s =
      .next { s.asReset with portOut := s.portOut ++ [.resetSignal], resetLow := true } ∧
    exec (.partReset .powerOn) s = .next { s.asReset with portOut := s.portOut ++ [.resetSignal] } ∧
    ∀ v : Word, s.resetLow = false → v.getLsbD 1 = true →
      exec (.softReset v) s = .next { s.asReset with portOut := s.portOut ++ [.resetSignal] }

/-- While RESET_N is low a request is dropped without a response or a fault, a window read returns 0 and a window write is
ignored; RESET_N_RELEASE ends that and changes nothing else (R66, R176). -/
def Obligations.LowResetPinIgnoresLinkAndWindowUntilRelease : Prop :=
  ∀ s : State,
    (s.resetLow = true →
      (∀ q : Request, exec (.arrival q) s = .next s) ∧
      (∀ addr : Nat, windowWord s addr = 0) ∧
      (∀ (n : SlotId) (v : Word), exec (.start n v) s = .next s ∧ exec (.ack n v) s = .next s ∧
        exec (.word7Action3 n v) s = .next s ∧ ∀ k : Fin 7, exec (.slotWordWrite n k v) s = .next s) ∧
      (∀ v : Word, exec (.linkEnable v) s = .next s ∧ exec (.softReset v) s = .next s ∧
        exec (.intStatusWrite v) s = .next s ∧ exec (.intEnableWrite v) s = .next s ∧
        exec (.responseLimitWrite v) s = .next s) ∧
      (∀ (off : BitVec 12) (bytes : List Byte), exec (.registerWrite off bytes) s = .next s)) ∧
    exec .resetNRelease s = .next { s with resetLow := false }

/-! ## The device link -/

/-- The arrival checks of R51 in their order, with the outcome of the first that refuses; a request that passes checks 1 to 6
holds its tag and goes on to translation, with the enables outside its range clear (R29, R47, R53 to R55). That a refused request's
own ABORT goes out before the ABORT STOPPED responses of the release that its capture causes is the model's reading (log 11). -/
def Obligations.ArrivalChecksAreMadeInOrder : Prop :=
  ∀ (s : State) (q : Request), s.resetLow = false →
    exec (.arrival q) s = .next
      (if s.linkTag q.requester q.tag = .busy then s.capture q.requester (.protocol (direction q) q.addr)
      else if ¬(1 ≤ q.length.toNat ∧ q.length.toNat ≤ 64 ∧ q.addr.toNat % 64 + q.length.toNat ≤ 64) then
        (s.withSent q.requester q.tag (.abort .protocol)).capture q.requester (.protocol (direction q) q.addr)
      else if s.linkEnable = false then s.withSent q.requester q.tag (.retry .notReady)
      else
        match (s.requesters.get q.requester).state with
        | .disabled => s.withSent q.requester q.tag (.abort .denied)
        | .halting => s.withSent q.requester q.tag (.retry .halted)
        | .halted => s.withSent q.requester q.tag (.retry .halted)
        | .stopped => s.withSent q.requester q.tag (.abort .stopped)
        | .enabled =>
          match s.lookup q.requester q.addr with
          | none => (s.withSent q.requester q.tag (.abort .noAperture)).capture q.requester (.noAperture (direction q) q.addr)
          | some (a, g) =>
            if permits g.access (direction q) = true then
              (s.setLinkTag q.requester q.tag .busy).translate a g (maskEnables q)
            else
              (s.withSent q.requester q.tag (.abort .permission)).capture q.requester (.permission (direction q) q.addr a))

/-- A request whose tag is BUSY is dropped: PROTOCOL joins its requester's record, in whatever state, and stops an ENABLED
requester with stop-on-fault, whose parked transactions are then answered ABORT STOPPED; nothing else changes (R34, R36, R52). -/
def Obligations.DuplicateTagIsDroppedAndCaptured : Prop :=
  ∀ (s : State) (q : Request), s.resetLow = false → s.linkTag q.requester q.tag = .busy →
    ∃ t, exec (.arrival q) s = .next t ∧ Captured s t q.requester (.protocol (direction q) q.addr)

/-- Lookup finds an aperture exactly when it is LIVE, its owner is the requester and its range holds the address (R8). -/
def Obligations.LookupFindsTheLiveApertureOfTheRange : Prop :=
  ∀ (s : State) (r : RequesterId) (x : LinkAddr) (a : ApIndex) (g : Grant), ApertureLaw s →
    (s.lookup r x = some (a, g) ↔
      (s.apertures.get a).life = .live g ∧ g.owner = r ∧ g.linkBase.toNat ≤ x.toNat ∧ x.toNat < g.linkBase.toNat + g.pages * 4096)

/-- A translated WRITE is accepted while the queue holds fewer than 8 entries: one entry at the tail and ACCEPT; it is told
QUEUE_FULL otherwise. Its tag is FREE afterwards, a hit has moved its cache entry to the head, and nothing else changes (R11,
R13, R56, R57, R72, R106, R108, R109). -/
def Obligations.TranslatedWriteIsPostedOrToldQueueFull : Prop :=
  ∀ (s : State) (q : Request) (a : ApIndex) (g : Grant) (m : MemAddr) (tc : List TcEntry), ApertureLaw s →
    s.passes q a g → direction q = .write → s.translates q a g m tc →
    (s.pwq.length < 8 → ∃ e, IsPostedWrite e s q a m ∧
      exec (.arrival q) s = .next { s.withSent q.requester q.tag .accept with
        tc := tc
        pwq := s.pwq ++ [e]
        nextSeq := s.nextSeq + 1 }) ∧
    (8 ≤ s.pwq.length → exec (.arrival q) s = .next { s.withSent q.requester q.tag (.retry .queueFull) with tc := tc })

/-- A translated READ makes one entry at the tail of the read tracker while it holds fewer than 8, holds its tag BUSY and gets no
response; it is told TRACKER_FULL otherwise. Nothing else changes but for the hit (R11, R13, R16, R56, R57, R72, R122 to R125). -/
def Obligations.TranslatedReadIsTrackedOrToldTrackerFull : Prop :=
  ∀ (s : State) (q : Request) (a : ApIndex) (g : Grant) (m : MemAddr) (tc : List TcEntry), ApertureLaw s →
    s.passes q a g → direction q = .read → s.translates q a g m tc →
    (s.rdt.length < 8 → ∃ d, IsTrackedRead d s q a g.ordering m ∧
      exec (.arrival q) s = .next { s.setLinkTag q.requester q.tag .busy with
        tc := tc
        rdt := s.rdt ++ [d]
        nextSeq := s.nextSeq + 1 }) ∧
    (8 ≤ s.rdt.length → exec (.arrival q) s = .next { s.withSent q.requester q.tag (.retry .trackerFull) with tc := tc })

/-- A MAPPED request that the cache does not serve. A hit whose page refuses the direction moves the entry to the head and is
answered ABORT PERMISSION and captured. A miss joins the walk for its page, or starts one while fewer than 4 stand, or is told
WALK_BUSY; having a walk it is parked at the end of its waiters while fewer than 8 transactions are parked, or is told PARK_FULL
(R15, R56, R58, R72, R91, R92). That the request's own ABORT goes out before the ABORT STOPPED responses of the release that its
capture causes is the model's reading (log 11). -/
def Obligations.MappedRequestIsRefusedOrParkedOnAWalk : Prop :=
  ∀ (s : State) (q : Request) (a : ApIndex) (g : Grant) (mb : MemAddr), s.passes q a g → g.base = .mapped mb →
    (∀ l₁ e l₂, s.hits q a g l₁ e l₂ → pagePermits e.readable e.writable (direction q) = false →
      exec (.arrival q) s = .next
        (({ s with tc := e :: (l₁ ++ l₂) }.withSent q.requester q.tag (.abort .permission)).capture q.requester
          (.permission (direction q) q.addr a))) ∧
    ((∀ e ∈ s.tc, TcEntry.isFor a (s.apertures.get a).generation (linkPage g q.addr) e = false) →
      (∀ l₁ w l₂, FirstOf (Walk.isFor a (s.apertures.get a).generation (linkPage g q.addr)) s.walks l₁ w l₂ →
        exec (.arrival q) s = .next
          (if s.parkedCount < 8 then
            { s.setLinkTag q.requester q.tag .busy with
              walks := l₁ ++ { w with waiters := w.waiters ++ [maskEnables q] } :: l₂ }
          else s.withSent q.requester q.tag (.retry .parkFull))) ∧
      ((∀ w ∈ s.walks, Walk.isFor a (s.apertures.get a).generation (linkPage g q.addr) w = false) →
        (4 ≤ s.walks.length → exec (.arrival q) s = .next (s.withSent q.requester q.tag (.retry .walkBusy))) ∧
        (s.walks.length < 4 → ∃ w : Walk,
          w.aperture = a ∧ w.generation = (s.apertures.get a).generation ∧ w.page = linkPage g q.addr ∧
          w.entryAddr = mb + BitVec.ofNat 40 (8 * linkPage g q.addr) ∧ w.state = .waitingTag ∧ w.orphaned = false ∧
          w.preload = none ∧
          exec (.arrival q) s = .next
            (if s.parkedCount < 8 then
              { s.setLinkTag q.requester q.tag .busy with walks := s.walks ++ [{ w with waiters := [maskEnables q] }] }
            else { s.withSent q.requester q.tag (.retry .parkFull) with walks := s.walks ++ [{ w with waiters := [] }] }))))

/-- A link reset frees every link tag and sends nothing, removes every parked transaction without a response, sets every read's
discard flag and changes nothing else; with no tag BUSY it changes nothing (R62, R63, R64, R120, R164). -/
def Obligations.LinkResetFreesTagsAndKeepsTheRest : Prop :=
  ∀ s : State,
    (∃ t, exec .linkReset s = .next t ∧
      (∀ (r : RequesterId) (g : LinkTag), t.linkTag r g = .free) ∧
      t = { s with
        linkTags := t.linkTags
        walks := s.walks.map fun w => { w with waiters := [] }
        rdt := s.rdt.map fun d => { d with discard := true } }) ∧
    (LinkTagLaw s → (∀ (r : RequesterId) (g : LinkTag), s.linkTag r g = .free) → exec .linkReset s = .next s)

/-! ## Requester contexts -/

/-- REQ_ENABLE makes a DISABLED or ENABLED requester ENABLED with the flag of word 0 as its stop-on-fault, and ends DONE; from
any other state it fails STATE and changes nothing (R40). -/
def Obligations.ReqEnableSetsStopOnFaultAndEnables : Prop :=
  ∀ (s : State) (n : SlotId) (r : RequesterId), s.takes n (some .reqEnable) → slotRequester (s.slots.get n) = some r →
    exec .reqEnable s = .next
      (if (s.requesters.get r).state = .disabled ∨ (s.requesters.get r).state = .enabled then
        (s.withRequester r { s.requesters.get r with
          state := .enabled
          stopOnFault := (slotWord (s.slots.get n) 0).getLsbD 27 }).withDone n (s.slots.get n).words
      else s.withFailed n .state)

/-- REQ_DISABLE makes the requester DISABLED from every state and ends DONE; one that leaves ENABLED has its parked transactions
answered ABORT DENIED and removed; its record, writes, reads and their tags are kept (R41, R31). -/
def Obligations.ReqDisableReleasesParkedTransactions : Prop :=
  ∀ (s : State) (n : SlotId) (r : RequesterId), s.takes n (some .reqDisable) → slotRequester (s.slots.get n) = some r →
    ((s.requesters.get r).state = .enabled → ∃ t, exec .reqDisable s = .next t ∧
      Answered s t (s.parkedOf r) (.abort .denied) ∧
      t = { (s.withRequester r { s.requesters.get r with state := .disabled }).withDone n (s.slots.get n).words with
        walks := withoutWaitersOf r s.walks
        linkTags := t.linkTags
        linkOut := t.linkOut }) ∧
    ((s.requesters.get r).state ≠ .enabled →
      exec .reqDisable s =
        .next ((s.withRequester r { s.requesters.get r with state := .disabled }).withDone n (s.slots.get n).words))

/-- REQ_HALT by the state at its take. From ENABLED and STOPPED: every posted write and read of the requester is marked, the
requester is HALTING and the slot WAITING, or HALTED and DONE where there is none to mark; from ENABLED the parked transactions are
answered RETRY HALTED and removed. From HALTED it ends DONE, from DISABLED and HALTING FAILED STATE, and changes nothing (R42,
R43, R136, R149). -/
def Obligations.ReqHaltDrainsTheRequester : Prop :=
  ∀ (s : State) (n : SlotId) (r : RequesterId), DrainLaw s → s.takes n (some .reqHalt) →
    slotRequester (s.slots.get n) = some r →
    ((s.requesters.get r).state = .disabled ∨ (s.requesters.get r).state = .halting →
      exec .reqHalt s = .next (s.withFailed n .state)) ∧
    ((s.requesters.get r).state = .halted → exec .reqHalt s = .next (s.withDone n (s.slots.get n).words)) ∧
    ((s.requesters.get r).state = .enabled ∨ (s.requesters.get r).state = .stopped → ∃ t, exec .reqHalt s = .next t ∧
      ((s.requesters.get r).state = .enabled →
        Answered s t (s.parkedOf r) (.retry .halted) ∧ t.walks = withoutWaitersOf r s.walks) ∧
      ((s.requesters.get r).state = .stopped → t.linkOut = s.linkOut ∧ t.linkTags = s.linkTags ∧ t.walks = s.walks) ∧
      ((∃ e ∈ s.pwq, e.requester = r) ∨ (∃ d ∈ s.rdt, d.requester = r) →
        t = { s.withRequester r { s.requesters.get r with state := .halting } with
          linkOut := t.linkOut
          linkTags := t.linkTags
          walks := t.walks
          pwq := markWrites n (fun e => decide (e.requester = r)) s.pwq
          rdt := markReads n (fun d => decide (d.requester = r)) s.rdt
          slots := s.slots.set n.val { s.slots.get n with state := .waiting } n.isLt }) ∧
      ((∀ e ∈ s.pwq, e.requester ≠ r) ∧ (∀ d ∈ s.rdt, d.requester ≠ r) →
        t = { (s.withRequester r { s.requesters.get r with state := .halted }).withDone n (s.slots.get n).words with
          linkOut := t.linkOut
          linkTags := t.linkTags
          walks := t.walks }))

/-- REQ_RESUME makes a HALTED requester ENABLED, its fault record, count and stop-on-fault kept, and ends DONE; from any other
state it fails STATE and changes nothing (R44). -/
def Obligations.ReqResumeEnablesAHaltedRequester : Prop :=
  ∀ (s : State) (n : SlotId) (r : RequesterId), s.takes n (some .reqResume) → slotRequester (s.slots.get n) = some r →
    exec .reqResume s = .next
      (if (s.requesters.get r).state = .halted then
        (s.withRequester r { s.requesters.get r with state := .enabled }).withDone n (s.slots.get n).words
      else s.withFailed n .state)

/-- FAULT_CLEAR removes the first fault and sets the count to 0 in every state, makes a STOPPED requester ENABLED, keeps
stop-on-fault and ends DONE; the FAULT cause is then pending exactly when another requester holds a first fault (R45, R37). -/
def Obligations.FaultClearRemovesTheFaultAndRestartsAStoppedRequester : Prop :=
  ∀ (s : State) (n : SlotId) (r : RequesterId), s.takes n (some .faultClear) → slotRequester (s.slots.get n) = some r →
    ∃ t, exec .faultClear s = .next t ∧
      t = (s.withRequester r {
        state := if (s.requesters.get r).state = .stopped then .enabled else (s.requesters.get r).state
        stopOnFault := (s.requesters.get r).stopOnFault
        firstFault := none
        faultCount := 0 }).withDone n (s.slots.get n).words ∧
      (faultPending t = true ↔ ∃ r' : RequesterId, r' ≠ r ∧ (s.requesters.get r').firstFault ≠ none)

/-- QUERY_REQUESTER reports the record in words 1 to 6, every absent field zero with its presence indication clear, and ends DONE;
nothing else changes (R46, R177). That bits of word 4 that the table of reports does not name are 0 is the model's choice (log 17). -/
def Obligations.QueryRequesterReportsTheRecord : Prop :=
  ∀ (s : State) (n : SlotId) (r : RequesterId), FaultCountLaw s → s.takes n (some .queryRequester) →
    slotRequester (s.slots.get n) = some r →
    ∃ w : Vector Word 7, exec .queryRequester s = .next (s.withDone n w) ∧ w.get 0 = slotWord (s.slots.get n) 0 ∧
      ((w.get 1).extractLsb' 0 3).toNat = requesterStateCode (s.requesters.get r).state ∧
      (w.get 1).getLsbD 4 = (s.requesters.get r).stopOnFault ∧
      ((w.get 1).extractLsb' 8 8).toNat = (s.requesters.get r).faultCount ∧
      w.get 5 = 0 ∧ w.get 6 = 0 ∧
      ((s.requesters.get r).firstFault = none →
        (w.get 1).extractLsb' 16 15 = 0 ∧ w.get 2 = 0 ∧ w.get 3 = 0 ∧ w.get 4 = 0) ∧
      (∀ f : FaultRecord, (s.requesters.get r).firstFault = some f →
        ((w.get 1).extractLsb' 16 4).toNat = faultKindCode f ∧
        (w.get 1).getLsbD 20 = decide (faultDirection f = .write) ∧
        (w.get 1).getLsbD 21 = decide (faultQualifier f = some .timeout) ∧
        (w.get 1).getLsbD 22 = (faultQualifier f).isSome ∧
        (w.get 1).getLsbD 23 = (faultAperture f).isSome ∧
        (w.get 1).getLsbD 24 = (faultEntry f).isSome ∧
        ((w.get 1).extractLsb' 25 6).toNat = ((faultAperture f).map Fin.val).getD 0 ∧
        w.get 2 = faultAddr f ∧
        (w.get 4).extractLsb' 0 8 ++ w.get 3 = (faultEntry f).getD 0)

/-! ## Apertures -/

/-- An AP_SET whose index names a FREE record and whose operands describe a grant that fits and overlaps no range of the owner's
view makes the record LIVE with its generation kept, puts it into the view at the place of its link base, and ends DONE with the
generation in word 5; nothing else changes (R18, R22, R23, R177). -/
def Obligations.ApSetMakesAFreeRecordLive : Prop :=
  ∀ (s : State) (n : SlotId) (a : ApIndex) (g : Grant), ApertureLaw s → s.takes n (some .apSet) →
    slotAperture (s.slots.get n) = some a → (s.apertures.get a).life = .free → describes (s.slots.get n) g → grantFits g →
    ¬s.overlapped g →
    ∃ l₁ l₂, s.views.get g.owner = l₁ ++ l₂ ∧
      (∀ i ∈ l₁, s.viewBase i < g.linkBase.toNat) ∧ (∀ i ∈ l₂, g.linkBase.toNat < s.viewBase i) ∧
      exec .apSet s = .next
        ({ s.withAperture a { generation := (s.apertures.get a).generation, life := .live g } with
          views := s.views.set g.owner.val (l₁ ++ a :: l₂) g.owner.isLt }.withDone n
            ((s.slots.get n).wordsWith 5 ((s.apertures.get a).generation.setWidth 32)))

/-- The checks of AP_SET in their order, each with its status: a failed AP_SET changes its slot's status alone (R18 to R22). -/
def Obligations.ApSetRefusesByItsFirstFailedCheck : Prop :=
  ∀ (s : State) (n : SlotId), ApertureLaw s → s.takes n (some .apSet) →
    (slotAperture (s.slots.get n) = none ∨ slotOwner (s.slots.get n) = none →
      exec .apSet s = .next (s.withFailed n .badIndex)) ∧
    (∀ a : ApIndex, slotAperture (s.slots.get n) = some a → slotOwner (s.slots.get n) ≠ none →
      (∀ h, (s.apertures.get a).life = .live h → exec .apSet s = .next (s.withFailed n .notFree)) ∧
      (∀ h, (s.apertures.get a).life = .retiring h → exec .apSet s = .next (s.withFailed n .busy)) ∧
      ((s.apertures.get a).life = .free →
        ((slotWord (s.slots.get n) 1).toNat % 4096 ≠ 0 ∨
            slotMode (s.slots.get n) = 1#2 ∧ (slotBase (s.slots.get n)).toNat % 4096 ≠ 0 ∨
            slotMode (s.slots.get n) = 2#2 ∧ (slotBase (s.slots.get n)).toNat % 8 ≠ 0 →
          exec .apSet s = .next (s.withFailed n .align)) ∧
        ((slotWord (s.slots.get n) 1).toNat % 4096 = 0 →
          (slotMode (s.slots.get n) = 1#2 → (slotBase (s.slots.get n)).toNat % 4096 = 0) →
          (slotMode (s.slots.get n) = 2#2 → (slotBase (s.slots.get n)).toNat % 8 = 0) →
          (∀ g, describes (s.slots.get n) g → ¬grantFits g) →
          exec .apSet s = .next (s.withFailed n .range)) ∧
        (∀ g, describes (s.slots.get n) g → grantFits g → s.overlapped g →
          exec .apSet s = .next (s.withFailed n .overlap))))

/-- QUERY_APERTURE reports the record and its in-flight count in words 1 to 6, absent fields zero, and ends DONE; nothing else
changes (R25, R17). That bits of word 6 that the table of reports does not name are 0 is the model's choice (log 17). -/
def Obligations.QueryApertureReportsTheRecord : Prop :=
  ∀ (s : State) (n : SlotId) (a : ApIndex), CapacityLaw s → ApertureLaw s → s.takes n (some .queryAperture) →
    slotAperture (s.slots.get n) = some a →
    ∃ w : Vector Word 7, exec .queryAperture s = .next (s.withDone n w) ∧ w.get 0 = slotWord (s.slots.get n) 0 ∧
      ((w.get 1).extractLsb' 0 2).toNat = lifeCode (s.apertures.get a).life ∧
      (w.get 1).extractLsb' 16 16 = (s.apertures.get a).generation ∧
      ((w.get 3).extractLsb' 24 5).toNat =
        s.pwq.countP (fun e => decide (e.aperture = a)) + s.rdt.countP (fun d => decide (d.aperture = a)) ∧
      (grantOf (s.apertures.get a) = none →
        (w.get 1).extractLsb' 2 11 = 0 ∧ w.get 2 = 0 ∧ (w.get 3).extractLsb' 0 17 = 0 ∧ w.get 4 = 0 ∧ w.get 5 = 0 ∧
        w.get 6 = 0) ∧
      (∀ g, grantOf (s.apertures.get a) = some g →
        ((w.get 1).extractLsb' 2 2).toNat = modeCode g.base ∧ ((w.get 1).extractLsb' 4 2).toNat = accessCode g.access ∧
        ((w.get 1).extractLsb' 6 2).toNat = orderingCode g.ordering ∧ ((w.get 1).extractLsb' 8 5).toNat = g.owner.val ∧
        w.get 2 = g.linkBase ∧ ((w.get 3).extractLsb' 0 17).toNat = g.pages ∧
        (w.get 6).extractLsb' 0 8 ++ w.get 4 = memBaseOf g.base ∧
        (w.get 6).extractLsb' 8 8 ++ w.get 5 = mapBaseOf g.base)

/-! ## Revocation -/

/-- AP_RETIRE of a LIVE record whose generation agrees: the cache loses the aperture's entries, its walks are orphaned and their
waiters answered ABORT NO_APERTURE, its writes and reads are marked. With any to mark the record is RETIRING and keeps its place
in the view, and the slot is WAITING with loss count 0 and the generation; with none the retirement completes at once: FREE, the
generation one higher, out of the view, DONE. Nothing else changes (R136, R141, R143, R152). -/
def Obligations.ApRetireTakeReachesEveryFormOfTheAperturesTraffic : Prop :=
  ∀ (s : State) (n : SlotId) (a : ApIndex) (g : Grant), DrainLaw s → s.takes n (some .apRetire) →
    slotAperture (s.slots.get n) = some a → (s.apertures.get a).life = .live g →
    ((slotWord (s.slots.get n) 1).getLsbD 16 = true ∨
      (slotWord (s.slots.get n) 1).extractLsb' 0 16 = (s.apertures.get a).generation) →
    ∃ t, exec .apRetire s = .next t ∧
      Answered s t ((s.walks.filter fun w => decide (w.aperture = a)).flatMap Walk.waiters) (.abort .noAperture) ∧
      ((∃ e ∈ s.pwq, e.aperture = a) ∨ (∃ d ∈ s.rdt, d.aperture = a) →
        t = { s.withAperture a { generation := (s.apertures.get a).generation, life := .retiring g } with
          tc := s.tc.filter fun e => decide (e.aperture ≠ a)
          walks := orphaned (fun w => decide (w.aperture = a)) s.walks
          pwq := markWrites n (fun e => decide (e.aperture = a)) s.pwq
          rdt := markReads n (fun d => decide (d.aperture = a)) s.rdt
          linkOut := t.linkOut
          linkTags := t.linkTags
          slots := s.slots.set n.val { s.slots.get n with
            state := .waiting
            words := ((s.slots.get n).wordsWith 5 0).set 6 ((s.apertures.get a).generation.setWidth 32) } n.isLt }) ∧
      ((∀ e ∈ s.pwq, e.aperture ≠ a) ∧ (∀ d ∈ s.rdt, d.aperture ≠ a) →
        t = { (s.withAperture a { generation := (s.apertures.get a).generation + 1, life := .free }).withDone n
            (((s.slots.get n).wordsWith 5 0).set 6 (((s.apertures.get a).generation + 1).setWidth 32)) with
          views := s.views.set g.owner.val ((s.views.get g.owner).filter fun i => decide (i ≠ a)) g.owner.isLt
          tc := s.tc.filter fun e => decide (e.aperture ≠ a)
          walks := orphaned (fun w => decide (w.aperture = a)) s.walks
          linkOut := t.linkOut
          linkTags := t.linkTags })

/-- AP_INVALIDATE of pages of a LIVE aperture: the cache loses the entries of the range, the walks of the range are orphaned and
their waiters answered RETRY INVALIDATED, the writes and reads whose link page lies in the range are marked; word 5 is 0 and word
6 the number of entries dropped. The slot is WAITING with any to mark and DONE with none. The record and all else stay (R136,
R145, R146, R147, R152). -/
def Obligations.ApInvalidateTakeReachesThePagesOfTheRange : Prop :=
  ∀ (s : State) (n : SlotId) (a : ApIndex) (g : Grant) (f c : Nat), DrainLaw s → s.takes n (some .apInvalidate) →
    slotAperture (s.slots.get n) = some a → (s.apertures.get a).life = .live g →
    f = (slotWord (s.slots.get n) 1).toNat → c = (slotWord (s.slots.get n) 2).toNat → 1 ≤ c → f + c ≤ g.pages →
    ∃ t words, exec .apInvalidate s = .next t ∧
      words = ((s.slots.get n).wordsWith 5 0).set 6 (BitVec.ofNat 32
        (s.tc.countP fun e => decide (e.aperture = a) && decide (f ≤ e.page) && decide (e.page < f + c))) ∧
      Answered s t
        ((s.walks.filter fun w => decide (w.aperture = a) && decide (f ≤ w.page) && decide (w.page < f + c)).flatMap Walk.waiters)
        (.retry .invalidated) ∧
      t.tc = s.tc.filter (fun e => !(decide (e.aperture = a) && decide (f ≤ e.page) && decide (e.page < f + c))) ∧
      t.walks = orphaned (fun w => decide (w.aperture = a) && decide (f ≤ w.page) && decide (w.page < f + c)) s.walks ∧
      t.pwq = markWrites n (fun e => decide (e.aperture = a) && decide (f ≤ (e.linkAddr.toNat - g.linkBase.toNat) / 4096) &&
        decide ((e.linkAddr.toNat - g.linkBase.toNat) / 4096 < f + c)) s.pwq ∧
      t.rdt = markReads n (fun d => decide (d.aperture = a) && decide (f ≤ (d.linkAddr.toNat - g.linkBase.toNat) / 4096) &&
        decide ((d.linkAddr.toNat - g.linkBase.toNat) / 4096 < f + c)) s.rdt ∧
      ((∃ e ∈ t.pwq, e.marks.get n = true) ∨ (∃ d ∈ t.rdt, d.marks.get n = true) →
        t = { s with
          tc := t.tc
          walks := t.walks
          pwq := t.pwq
          rdt := t.rdt
          linkOut := t.linkOut
          linkTags := t.linkTags
          slots := s.slots.set n.val { s.slots.get n with state := .waiting, words := words } n.isLt }) ∧
      ((∀ e ∈ t.pwq, e.marks.get n = false) ∧ (∀ d ∈ t.rdt, d.marks.get n = false) →
        t = { s.withDone n words with tc := t.tc, walks := t.walks, linkOut := t.linkOut, linkTags := t.linkTags })

/-- The refusals of AP_RETIRE and AP_INVALIDATE, each by its first failed check; a refused command changes its slot's status
alone (R140, R145, R152). -/
def Obligations.RevocationRefusesByItsFirstFailedCheck : Prop :=
  ∀ (s : State) (n : SlotId) (a : ApIndex), slotAperture (s.slots.get n) = some a →
    (s.takes n (some .apRetire) →
      ((s.apertures.get a).life = .free → exec .apRetire s = .next (s.withFailed n .notLive)) ∧
      (∀ g, (s.apertures.get a).life = .retiring g → exec .apRetire s = .next (s.withFailed n .alreadyRetiring)) ∧
      (∀ g, (s.apertures.get a).life = .live g → (slotWord (s.slots.get n) 1).getLsbD 16 = false →
        (slotWord (s.slots.get n) 1).extractLsb' 0 16 ≠ (s.apertures.get a).generation →
        exec .apRetire s = .next (s.withFailed n .stale))) ∧
    (s.takes n (some .apInvalidate) →
      ((∀ g, (s.apertures.get a).life ≠ .live g) → exec .apInvalidate s = .next (s.withFailed n .notLive)) ∧
      (∀ g, (s.apertures.get a).life = .live g →
        ((slotWord (s.slots.get n) 2).toNat = 0 ∨
          g.pages < (slotWord (s.slots.get n) 1).toNat + (slotWord (s.slots.get n) 2).toNat) →
        exec .apInvalidate s = .next (s.withFailed n .range)))

/-- FLUSH marks every posted write and waits, with loss count 0, or ends DONE with loss count 0 when the queue is empty; nothing
else changes (R136, R150, R152). -/
def Obligations.FlushMarksEveryPostedWrite : Prop :=
  ∀ (s : State) (n : SlotId), DrainLaw s → s.takes n (some .flush) →
    exec .flush s = .next
      (if s.pwq = [] then s.withDone n ((s.slots.get n).wordsWith 5 0)
      else { s with
        pwq := markWrites n (fun _ => true) s.pwq
        slots := s.slots.set n.val { s.slots.get n with
          state := .waiting
          words := (s.slots.get n).wordsWith 5 0 } n.isLt })

/-- The completions as commands of their own, in a slot that waits with no entry bearing its mark: a retirement frees its
record, raises the generation, takes the aperture out of its owner's view and shows the generation in word 6; a halt makes a
HALTING requester HALTED and leaves any other state; an invalidation and a flush keep their results; a preload shows its walk's
outcome. Each ends its slot and changes nothing else (R43, R82, R138, R143, R147, R151). That they stand as commands of their own
is the model's choice (log 2). -/
def Obligations.CompletionsEndTheirCommand : Prop :=
  ∀ (s : State) (n : SlotId),
    ((s.slots.get n).state = .waiting → (∀ e ∈ s.pwq, e.marks.get n = false) → (∀ d ∈ s.rdt, d.marks.get n = false) →
      (∀ (a : ApIndex) (g : Grant), slotCommand (s.slots.get n) = some .apRetire → slotAperture (s.slots.get n) = some a →
        (s.apertures.get a).life = .retiring g →
        exec (.apRetireCompletion n) s = .next
          ({ s.withAperture a { generation := (s.apertures.get a).generation + 1, life := .free } with
            views := s.views.set g.owner.val ((s.views.get g.owner).filter fun i => decide (i ≠ a)) g.owner.isLt }.withDone n
              ((s.slots.get n).wordsWith 6 (((s.apertures.get a).generation + 1).setWidth 32)))) ∧
      (∀ r : RequesterId, slotCommand (s.slots.get n) = some .reqHalt → slotRequester (s.slots.get n) = some r →
        exec (.reqHaltCompletion n) s = .next
          (if (s.requesters.get r).state = .halting then
            (s.withRequester r { s.requesters.get r with state := .halted }).withDone n (s.slots.get n).words
          else s.withDone n (s.slots.get n).words)) ∧
      (slotCommand (s.slots.get n) = some .apInvalidate →
        exec (.apInvalidateCompletion n) s = .next (s.withDone n (s.slots.get n).words)) ∧
      (slotCommand (s.slots.get n) = some .flush →
        exec (.flushCompletion n) s = .next (s.withDone n (s.slots.get n).words))) ∧
    ((s.slots.get n).state = .running → slotCommand (s.slots.get n) = some .tcPreload →
      (∀ w ∈ s.walks, ∀ pin, w.preload ≠ some (n, pin)) →
      ∀ o : PreloadEnd, exec (.tcPreloadCompletion n o) s = .next
        (match o with
        | .installed => s.withDone n ((s.slots.get n).wordsWith 5 2)
        | .pinLimit => s.withFailed n .pinLimit
        | .noPage => s.withFailed n .noPage
        | .walkError q => s.withEnd n (s.slots.get n).words .failed .walkError q))

/-- The departure of a posted write or a read on an OK answer, an ERROR answer or an expiry, whatever commands have marked it. Its
port tag becomes FREE on an answer and QUARANTINED on an expiry; a write frees the reads it held and sends nothing, a read whose
discard flag is clear sends DATA or ABORT MEMORY_ERROR and frees its link tag; a failure is captured on the requester (`WriteLeft`,
`ReadLeft`). Then every WAITING command that has marked it is told: an ERROR answer and an expiry raise its loss count in word 5
by one, but for a REQ_HALT, and an OK answer does not; it waits on while another entry bears its mark, and the departure of the
last bearer ends it DONE with its completion: a retirement, a halt, an invalidation, a flush (`Told`). Nothing else changes
(`OnlyToldSlots`; R43, R115 to R117, R126, R129 to R131, R137, R138, R142, R143, R147, R150, R152, R161). That a byte the answer
lacks is a free value is the model's choice (log 5); that a read's own ABORT goes out before the ABORT STOPPED responses of the
release that its capture causes is its reading (log 11). -/
def Obligations.DepartureAdvancesTheCommandsThatMarkedIt : Prop :=
  ∀ (s : State) (p : PortTagId) (time : Nat) (c : Instr) (tag : PortTag) (failure : Option Qualifier), RetireLaw s → HaltLaw s →
    s.endsRequest p time c tag failure →
    (∀ l₁ e l₂, s.portTags.get p = .busy .write time → FirstOf (PostedWrite.holdsTag p) s.pwq l₁ e l₂ →
      ∃ u t, exec c s = .next t ∧ WriteLeft s u p tag failure l₁ e l₂ ∧ OnlyToldSlots u t e.marks ∧
        ∀ n, e.marks.get n = true → (s.slots.get n).state = .waiting →
          Told s t n failure.isSome ((∃ x ∈ l₁ ++ l₂, x.marks.get n = true) ∨ ∃ d ∈ s.rdt, d.marks.get n = true)) ∧
    (∀ l₁ d l₂, s.portTags.get p = .busy .read time → FirstOf (ReadEntry.holdsTag p) s.rdt l₁ d l₂ →
      ∃ u t, exec c s = .next t ∧ ReadLeft s u c p tag failure l₁ d l₂ ∧ OnlyToldSlots u t d.marks ∧
        ∀ n, d.marks.get n = true → (s.slots.get n).state = .waiting →
          Told s t n failure.isSome ((∃ e ∈ s.pwq, e.marks.get n = true) ∨ ∃ x ∈ l₁ ++ l₂, x.marks.get n = true))

/-! ## The translation cache -/

/-- TC_PRELOAD that ends at its take: the refusals of R79 in their order; and on a page that is cached, the entry moves to the
head, its pin set where asked and kept otherwise, DONE with PRESENT in word 5, or FAILED PIN_LIMIT with nothing changed where a
25th pin is asked for (R76, R79, R80). -/
def Obligations.TcPreloadOfACachedPageEndsAtItsTake : Prop :=
  ∀ (s : State) (n : SlotId) (a : ApIndex), s.takes n (some .tcPreload) → slotAperture (s.slots.get n) = some a →
    ((∀ g, (s.apertures.get a).life ≠ .live g) → exec .tcPreload s = .next (s.withFailed n .notLive)) ∧
    (∀ g, (s.apertures.get a).life = .live g →
      (∀ b, g.base = .direct b → exec .tcPreload s = .next (s.withFailed n .notMapped)) ∧
      (∀ b, g.base = .mapped b →
        (g.pages ≤ (slotWord (s.slots.get n) 1).toNat → exec .tcPreload s = .next (s.withFailed n .range)) ∧
        ((slotWord (s.slots.get n) 1).toNat < g.pages → ∀ l₁ e l₂,
          FirstOf (TcEntry.isFor a (s.apertures.get a).generation (slotWord (s.slots.get n) 1).toNat) s.tc l₁ e l₂ →
          exec .tcPreload s = .next
            (if (slotWord (s.slots.get n) 0).getLsbD 27 = true ∧ e.pinned = false ∧ 24 ≤ s.tc.countP (fun x => x.pinned) then
              s.withFailed n .pinLimit
            else
              { s with tc := { e with pinned := e.pinned || (slotWord (s.slots.get n) 0).getLsbD 27 } :: (l₁ ++ l₂) }.withDone n
                ((s.slots.get n).wordsWith 5 1)))))

/-- TC_PRELOAD of a page that is not cached: it becomes the preload waiter of the page's walk, which is started if there is none
and fewer than 4 stand, and is RUNNING; with 4 walks and none for the page it fails WALK_BUSY. It changes nothing else (R81, R93). -/
def Obligations.TcPreloadOfAnUncachedPageWaitsOnAWalk : Prop :=
  ∀ (s : State) (n : SlotId) (a : ApIndex) (g : Grant) (mb : MemAddr) (page : Nat), s.takes n (some .tcPreload) →
    slotAperture (s.slots.get n) = some a → (s.apertures.get a).life = .live g → g.base = .mapped mb →
    page = (slotWord (s.slots.get n) 1).toNat → page < g.pages →
    (∀ e ∈ s.tc, TcEntry.isFor a (s.apertures.get a).generation page e = false) →
    (∀ l₁ w l₂, FirstOf (Walk.isFor a (s.apertures.get a).generation page) s.walks l₁ w l₂ →
      exec .tcPreload s = .next { s with
        walks := l₁ ++ { w with preload := some (n, (slotWord (s.slots.get n) 0).getLsbD 27) } :: l₂
        slots := s.slots.set n.val { s.slots.get n with state := .running } n.isLt }) ∧
    ((∀ w ∈ s.walks, Walk.isFor a (s.apertures.get a).generation page w = false) →
      (4 ≤ s.walks.length → exec .tcPreload s = .next (s.withFailed n .walkBusy)) ∧
      (s.walks.length < 4 →
        exec .tcPreload s = .next { s with
          walks := s.walks ++ [{
            aperture := a
            generation := (s.apertures.get a).generation
            page := page
            entryAddr := mb + BitVec.ofNat 40 (8 * page)
            state := .waitingTag
            orphaned := false
            waiters := []
            preload := some (n, (slotWord (s.slots.get n) 0).getLsbD 27) }]
          slots := s.slots.set n.val { s.slots.get n with state := .running } n.isLt }))

/-- TC_UNPIN clears the pin of the entry with its aperture and page, where it stands, and ends DONE; without such an entry it fails
NOT_CACHED. It looks at no aperture record and changes nothing else (R84). -/
def Obligations.TcUnpinClearsThePinInPlace : Prop :=
  ∀ (s : State) (n : SlotId), s.takes n (some .tcUnpin) →
    (slotAperture (s.slots.get n) = none → exec .tcUnpin s = .next (s.withFailed n .badIndex)) ∧
    (∀ a : ApIndex, slotAperture (s.slots.get n) = some a →
      ((∀ e ∈ s.tc, ¬(e.aperture = a ∧ e.page = (slotWord (s.slots.get n) 1).toNat)) →
        exec .tcUnpin s = .next (s.withFailed n .notCached)) ∧
      (∀ l₁ e l₂, s.tc = l₁ ++ e :: l₂ →
        (∀ x ∈ l₁, ¬(x.aperture = a ∧ x.page = (slotWord (s.slots.get n) 1).toNat)) →
        e.aperture = a → e.page = (slotWord (s.slots.get n) 1).toNat →
        exec .tcUnpin s = .next ({ s with tc := l₁ ++ { e with pinned := false } :: l₂ }.withDone n (s.slots.get n).words)))

/-- QUERY_TC reports the number of entries, the number of pinned ones, and the entry at the position of its index field or NONE with
every entry field zero, and ends DONE; nothing else changes (R85). That bits of word 3 that the table of reports does not name are 0
is the model's choice (log 17). -/
def Obligations.QueryTcReportsOnePosition : Prop :=
  ∀ (s : State) (n : SlotId) (k : Nat), CapacityLaw s → ApertureLaw s → TranslationLaw s → s.takes n (some .queryTc) →
    k = (slotIndex (s.slots.get n)).toNat → k ≤ 31 →
    ∃ w : Vector Word 7, exec .queryTc s = .next (s.withDone n w) ∧ w.get 0 = slotWord (s.slots.get n) 0 ∧
      ((w.get 1).extractLsb' 0 6).toNat = s.tc.length ∧
      ((w.get 1).extractLsb' 8 5).toNat = s.tc.countP (fun e => e.pinned) ∧
      (w.get 1).getLsbD 16 = decide (s.tc.length ≤ k) ∧ w.get 4 = 0 ∧ w.get 5 = 0 ∧ w.get 6 = 0 ∧
      (s.tc.length ≤ k →
        (w.get 1).extractLsb' 17 3 = 0 ∧ (w.get 1).extractLsb' 24 6 = 0 ∧ w.get 2 = 0 ∧ w.get 3 = 0) ∧
      (∀ h : k < s.tc.length,
        (w.get 1).getLsbD 17 = s.tc[k].pinned ∧ (w.get 1).getLsbD 18 = s.tc[k].readable ∧
        (w.get 1).getLsbD 19 = s.tc[k].writable ∧ ((w.get 1).extractLsb' 24 6).toNat = s.tc[k].aperture.val ∧
        (w.get 2).extractLsb' 0 16 = s.tc[k].generation ∧ ((w.get 2).extractLsb' 16 16).toNat = s.tc[k].page ∧
        (w.get 3).extractLsb' 0 28 = s.tc[k].frame)

/-! ## The host memory port -/

/-- A grant of a FREE tag: the oldest walk in WAITING_TAG first; else, where both the queue and the tracker offer, the source the
contest memory favours, which then favours the loser; else the one that offers, the memory kept. The owner becomes ISSUED under
the tag, the tag BUSY with its kind and time 0, the request leaves, and nothing else changes; a write waits for no read that awaits
its answer (R94, R111, R128, R155 to R158). -/
def Obligations.GrantServesWalksThenTheContest : Prop :=
  ∀ (s : State) (p : PortTagId), s.portTags.get p = .free →
    (∀ l₁ w l₂, FirstOf (fun w => decide (w.state = .waitingTag)) s.walks l₁ w l₂ →
      exec (.grant p) s = .next { s.withPortTag p (.busy .walk 0) with
        walks := l₁ ++ { w with state := .issued p } :: l₂
        portOut := s.portOut ++ [.walkRead p w.entryAddr] }) ∧
    ((∀ w ∈ s.walks, w.state ≠ .waitingTag) →
      (∀ l₁ e l₂ m₁ d m₂, FirstOf (fun e => decide (e.state = .queued)) s.pwq l₁ e l₂ →
        FirstOf (fun d => decide (d.state = .ready)) s.rdt m₁ d m₂ →
        exec (.grant p) s = .next
          (match s.contest with
          | .pwq => { s.withWriteIssued p l₁ e l₂ with contest := .rdt }
          | .rdt => { s.withReadIssued p m₁ d m₂ with contest := .pwq })) ∧
      (∀ l₁ e l₂, FirstOf (fun e => decide (e.state = .queued)) s.pwq l₁ e l₂ → (∀ d ∈ s.rdt, d.state ≠ .ready) →
        exec (.grant p) s = .next (s.withWriteIssued p l₁ e l₂)) ∧
      (∀ m₁ d m₂, FirstOf (fun d => decide (d.state = .ready)) s.rdt m₁ d m₂ → (∀ e ∈ s.pwq, e.state ≠ .queued) →
        exec (.grant p) s = .next (s.withReadIssued p m₁ d m₂)))

/-- The departure of a posted write that no command has marked: it leaves the queue, the reads it held are freed, its port tag
becomes FREE on an answer and QUARANTINED on an expiry, nothing is sent; an ERROR answer or an expiry captures WRITE_LOST with its
qualifier on its requester. Nothing else changes (R115, R116, R117, R126, R161). -/
def Obligations.PostedWriteLeavesOnItsAnswerOrExpiry : Prop :=
  ∀ (s : State) (p : PortTagId) (time : Nat) (l₁ : List PostedWrite) (e : PostedWrite) (l₂ : List PostedWrite),
    s.portTags.get p = .busy .write time → FirstOf (PostedWrite.holdsTag p) s.pwq l₁ e l₂ → (∀ n, e.marks.get n = false) →
    (∀ data, exec (.answer p (.ok data)) s =
      .next { s.withPortTag p .free with pwq := l₁ ++ l₂, rdt := freed e.seq s.rdt }) ∧
    (∃ t, exec (.answer p .error) s = .next t ∧
      Captured { s.withPortTag p .free with pwq := l₁ ++ l₂, rdt := freed e.seq s.rdt } t e.requester
        (.writeLost .error e.linkAddr e.aperture)) ∧
    (s.overdue time → ∃ t, exec (.expiry p) s = .next t ∧
      Captured { s.withPortTag p .quarantined with pwq := l₁ ++ l₂, rdt := freed e.seq s.rdt } t e.requester
        (.writeLost .timeout e.linkAddr e.aperture))

/-- The departure of a read that no command has marked: it leaves the tracker and its port tag becomes FREE, or QUARANTINED on an
expiry. Unless its discard flag is set its link tag becomes FREE and it is answered DATA with the bytes of an OK answer, or ABORT
MEMORY_ERROR; an ERROR answer or an expiry captures MEMORY_ERROR with its qualifier either way. Nothing else changes (R64, R129,
R130, R131, R161). That a byte the answer lacks is a free value, and the index of those values moves on, is the model's choice (log
5); that the read's own ABORT goes out before the ABORT STOPPED responses of the release that its capture causes is its reading
(log 11). -/
def Obligations.ReadLeavesOnItsAnswerOrExpiry : Prop :=
  ∀ (s : State) (p : PortTagId) (time : Nat) (l₁ : List ReadEntry) (d : ReadEntry) (l₂ : List ReadEntry),
    s.portTags.get p = .busy .read time → FirstOf (ReadEntry.holdsTag p) s.rdt l₁ d l₂ → (∀ n, d.marks.get n = false) →
    (∀ data, ∃ (bytes : List Byte) (c : Nat), exec (.answer p (.ok data)) s = .next
        (if d.discard = true then { s.withPortTag p .free with rdt := l₁ ++ l₂, freeCount := c }
        else { (s.withPortTag p .free).respond d.requester d.tag (.data bytes) with rdt := l₁ ++ l₂, freeCount := c }) ∧
      bytes.length = d.length ∧ (∀ i < d.length, i < data.length → bytes[i]? = data[i]?) ∧
      (d.length ≤ data.length → c = s.freeCount)) ∧
    (∃ t, exec (.answer p .error) s = .next t ∧
      Captured
        (if d.discard = true then { s.withPortTag p .free with rdt := l₁ ++ l₂ }
        else { (s.withPortTag p .free).respond d.requester d.tag (.abort .memoryError) with rdt := l₁ ++ l₂ })
        t d.requester (.memoryError .error d.linkAddr d.aperture)) ∧
    (s.overdue time → ∃ t, exec (.expiry p) s = .next t ∧
      Captured
        (if d.discard = true then { s.withPortTag p .quarantined with rdt := l₁ ++ l₂ }
        else { (s.withPortTag p .quarantined).respond d.requester d.tag (.abort .memoryError) with rdt := l₁ ++ l₂ })
        t d.requester (.memoryError .timeout d.linkAddr d.aperture))

/-- What reaches no owner. An answer under a FREE tag changes nothing; a late answer frees its QUARANTINED tag and changes nothing
else; the answer or the expiry of an orphaned walk removes its record and reports nothing; a request that has not reached a limit
other than 0 does not expire (R102, R159, R160, R161). That an EXPIRY put first in the queue before its time changes nothing is
the model's choice (log 1). -/
def Obligations.LateStrayAndOrphanedAnswersReachNoOne : Prop :=
  ∀ (s : State) (p : PortTagId) (ans : Answer),
    (s.portTags.get p = .free → exec (.answer p ans) s = .next s ∧ exec (.expiry p) s = .next s) ∧
    (s.portTags.get p = .quarantined →
      exec (.answer p ans) s = .next (s.withPortTag p .free) ∧ exec (.expiry p) s = .next s) ∧
    (∀ k time, s.portTags.get p = .busy k time → ¬s.overdue time → exec (.expiry p) s = .next s) ∧
    (∀ time l₁ w l₂, s.portTags.get p = .busy .walk time → FirstOf (Walk.holdsTag p) s.walks l₁ w l₂ → w.orphaned = true →
      exec (.answer p ans) s = .next { s.withPortTag p .free with walks := l₁ ++ l₂ } ∧
      (s.overdue time → exec (.expiry p) s = .next { s.withPortTag p .quarantined with walks := l₁ ++ l₂ }))

/-! ## Completion of a walk -/

/-- The end of a walk without waiters. An OK answer with the valid indication set installs its entry at the head of the cache, a
full cache losing its unpinned entry furthest from the head, pinned where the walk carries a pin request and fewer than 24 entries
are pinned; the preload, if it carries one, ends INSTALLED or PIN_LIMIT. Any other end installs nothing and fails the preload with
NO_PAGE, or WALK_ERROR with its qualifier. The record is removed and nothing else changes (R74, R75, R76, R82, R95, R96, R99,
R100). -/
def Obligations.WalkWithoutWaitersInstallsItsPage : Prop :=
  ∀ (s : State) (p : PortTagId) (time : Nat) (l₁ : List Walk) (w : Walk) (l₂ : List Walk) (data : List Byte),
    s.portTags.get p = .busy .walk time → FirstOf (Walk.holdsTag p) s.walks l₁ w l₂ → w.orphaned = false → w.waiters = [] →
    (∀ n pin, w.preload = some (n, pin) → (s.slots.get n).state = .running) → data.length = 8 →
    ((pageEntryOf data).valid = true → ∃ (e : TcEntry) (tc : List TcEntry), Installs s w (pageEntryOf data) e tc ∧
      exec (.answer p (.ok data)) s = .next
        ({ s.withPortTag p .free with walks := l₁ ++ l₂, tc := tc }.withPreloadEnd w e)) ∧
    ((pageEntryOf data).valid = false → exec (.answer p (.ok data)) s = .next
      (match w.preload with
      | none => { s.withPortTag p .free with walks := l₁ ++ l₂ }
      | some (n, _) => { s.withPortTag p .free with walks := l₁ ++ l₂ }.withFailed n .noPage)) ∧
    (exec (.answer p .error) s = .next
      (match w.preload with
      | none => { s.withPortTag p .free with walks := l₁ ++ l₂ }
      | some (n, _) =>
        { s.withPortTag p .free with walks := l₁ ++ l₂ }.withEnd n (s.slots.get n).words .failed .walkError .error)) ∧
    (s.overdue time → exec (.expiry p) s = .next
      (match w.preload with
      | none => { s.withPortTag p .quarantined with walks := l₁ ++ l₂ }
      | some (n, _) =>
        { s.withPortTag p .quarantined with walks := l₁ ++ l₂ }.withEnd n (s.slots.get n).words .failed .walkError .timeout))

/-- The end of a walk on an OK answer with the valid indication set: the page is installed, a full cache losing its victim; the
preload ends, if the walk carries one; then each waiter in order of arrival takes its turn, which sees what the turns before it
left: a WRITE is posted and answered ACCEPT, or told QUEUE_FULL, a READ is tracked under its tag, or told TRACKER_FULL, at the
address the answer's frame gives, and a waiter whose page check fails is answered ABORT PERMISSION and captured; where that stops
the requester the waiters behind it are answered ABORT STOPPED (`Installs`, `Resumes`; R35, R74, R82, R90, R95 to R98). That the
preload ends before the waiters' turns, and that a waiter's own ABORT goes out before the responses of the release, is the model's
reading (log 11). -/
def Obligations.ResumedWaiterIsTranslatedWithTheAnswer : Prop :=
  ∀ (s : State) (p : PortTagId) (time : Nat) (l₁ : List Walk) (w : Walk) (l₂ : List Walk) (data : List Byte) (g : Grant),
    s.portTags.get p = .busy .walk time → FirstOf (Walk.holdsTag p) s.walks l₁ w l₂ → w.orphaned = false →
    (∀ q ∈ w.waiters, maskEnables q = q) → (∀ n pin, w.preload = some (n, pin) → (s.slots.get n).state = .running) →
    (s.apertures.get w.aperture).life = .live g → data.length = 8 → (pageEntryOf data).valid = true →
    ∃ e tc t, Installs s w (pageEntryOf data) e tc ∧ exec (.answer p (.ok data)) s = .next t ∧
      Resumes p (pageEntryOf data) w.aperture g ({ s.withPortTag p .free with tc := tc }.withPreloadEnd w e) t

/-- The end of a walk that gives no translation and has waiters, all of one requester: the preload it carries, if it carries one,
ends FAILED with NO_PAGE, or WALK_ERROR with its qualifier. While the captures do not stop the requester each waiter in order is
answered ABORT with the walk's outcome and captured, the first waiter's fault being the first fault if none was held. Where they
stop it, the first waiter alone is answered so and captured, and the requester's other parked transactions are answered ABORT
STOPPED (R31, R35, R36, R82, R95, R98, R99, R100). That the first waiter's ABORT goes out before the ABORT STOPPED responses of
that release, those of older walks among them, is the model's reading (log 11). -/
def Obligations.WaitersOfAFailedWalkAreAbortedInOrder : Prop :=
  ∀ (s : State) (p : PortTagId) (time : Nat) (l₁ : List Walk) (w : Walk) (l₂ : List Walk) (q : Request) (ps : List Request)
      (c : Instr) (kind : AbortKind) (fault : Request → FaultRecord) (tag : PortTag) (code : Status) (qual : Qualifier),
    s.portTags.get p = .busy .walk time → FirstOf (Walk.holdsTag p) s.walks l₁ w l₂ → w.orphaned = false →
    w.waiters = q :: ps → (∀ x ∈ ps, x.requester = q.requester) →
    (∀ n pin, w.preload = some (n, pin) → (s.slots.get n).state = .running) → FaultCountLaw s →
    ((∃ data, c = .answer p (.ok data) ∧ data.length = 8 ∧ (pageEntryOf data).valid = false ∧ kind = .noPage ∧
        fault = (fun x => .noPage (direction x) x.addr w.aperture w.entryAddr) ∧ tag = .free ∧ code = .noPage ∧ qual = .error) ∨
      (c = .answer p .error ∧ kind = .walkError ∧
        fault = (fun x => .walkError .error (direction x) x.addr w.aperture w.entryAddr) ∧ tag = .free ∧
        code = .walkError ∧ qual = .error) ∨
      (c = .expiry p ∧ s.overdue time ∧ kind = .walkError ∧
        fault = (fun x => .walkError .timeout (direction x) x.addr w.aperture w.entryAddr) ∧ tag = .quarantined ∧
        code = .walkError ∧ qual = .timeout)) →
    (¬(s.requesters.get q.requester).stops → ∃ t, exec c s = .next t ∧ Answered s t (q :: ps) (.abort kind) ∧
      t = { ((s.withPortTag p tag).withPreloadFailed w code qual).withRequester q.requester { s.requesters.get q.requester with
          firstFault := some ((s.requesters.get q.requester).firstFault.getD (fault q))
          faultCount := min ((s.requesters.get q.requester).faultCount + (ps.length + 1)) 255 } with
        walks := l₁ ++ l₂
        linkTags := t.linkTags
        linkOut := t.linkOut }) ∧
    ((s.requesters.get q.requester).stops → ∃ t rest, exec c s = .next t ∧
      rest = (l₁ ++ { w with waiters := ps } :: l₂).flatMap
        (fun v => v.waiters.filter fun x => decide (x.requester = q.requester)) ∧
      t.linkOut = s.linkOut ++ repliesTo (.abort kind) [q] ++ repliesTo (.abort .stopped) rest ∧
      TagsFreed s t (q :: rest) ∧
      t = { ((s.withPortTag p tag).withPreloadFailed w code qual).withRequester q.requester
          ((s.requesters.get q.requester).withFault (fault q) .stopped) with
        walks := withoutWaitersOf q.requester (l₁ ++ l₂)
        linkTags := t.linkTags
        linkOut := t.linkOut })

/-! ## Command slots and the control window -/

/-- The next take takes the first slot of the submission list that is PENDING with no slot before it of the same target; a slot
without a target waits behind none (R170). -/
def Obligations.NextTakeIsTheOldestEligibleSlot : Prop :=
  ∀ (s : State) (n : SlotId),
    s.nextTake = some n ↔
      ∃ l₁ l₂, s.submission = l₁ ++ n :: l₂ ∧ (s.slots.get n).state = .pending ∧
        (∀ m ∈ l₁, slotTarget (s.slots.get n) ≠ none → slotTarget (s.slots.get m) ≠ slotTarget (s.slots.get n)) ∧
        ∀ k₁ m k₂, l₁ = k₁ ++ m :: k₂ → (s.slots.get m).state = .pending →
          slotTarget (s.slots.get m) ≠ none ∧ ∃ i ∈ k₁, slotTarget (s.slots.get i) = slotTarget (s.slots.get m)

/-- The take of a slot whose operation code names no command ends it FAILED BAD_OP; an index field outside the range of the
command's target ends it FAILED BAD_INDEX; nothing else changes (R38, R171). -/
def Obligations.BadOperationCodeAndBadIndexFailAtTheTake : Prop :=
  ∀ (s : State) (n : SlotId),
    (s.takes n none → exec .badOp s = .next (s.withFailed n .badOp)) ∧
    (∀ c i, (c, i) ∈ [(Command.apSet, Instr.apSet), (.apRetire, .apRetire), (.apInvalidate, .apInvalidate),
        (.queryAperture, .queryAperture), (.tcPreload, .tcPreload), (.tcUnpin, .tcUnpin)] →
      s.takes n (some c) → 63 < (slotIndex (s.slots.get n)).toNat → exec i s = .next (s.withFailed n .badIndex)) ∧
    (∀ c i, (c, i) ∈ [(Command.reqEnable, Instr.reqEnable), (.reqDisable, .reqDisable), (.reqHalt, .reqHalt),
        (.reqResume, .reqResume), (.faultClear, .faultClear), (.queryRequester, .queryRequester)] →
      s.takes n (some c) → 15 < (slotIndex (s.slots.get n)).toNat → exec i s = .next (s.withFailed n .badIndex)) ∧
    (s.takes n (some .queryTc) → 31 < (slotIndex (s.slots.get n)).toNat →
      exec .queryTc s = .next (s.withFailed n .badIndex))

/-- Writes to a slot. START moves a FREE slot to PENDING at the tail of the submission list and reads no operand; ACK moves a DONE
or FAILED slot to FREE with status NONE and its words kept; words 0 to 6 are stored in FREE. In any other state each is refused, and
so is action 3: SUBMIT_ERROR is set and nothing else changes (R166, R167, R168, R172). -/
def Obligations.SlotWritesAreTakenOrRefused : Prop :=
  ∀ (s : State) (n : SlotId) (v : Word), s.resetLow = false →
    (writtenAction v = 1#2 → exec (.start n v) s = .next
      (if (s.slots.get n).state = .free then
        { s with
          slots := s.slots.set n.val { s.slots.get n with state := .pending } n.isLt
          submission := s.submission ++ [n] }
      else { s with submitError := true })) ∧
    (writtenAction v = 2#2 → exec (.ack n v) s = .next
      (if (s.slots.get n).state = .done ∨ (s.slots.get n).state = .failed then
        { s with slots := s.slots.set n.val {
            state := .free
            words := (s.slots.get n).words
            status := .none
            qualifier := .error } n.isLt }
      else { s with submitError := true })) ∧
    (writtenAction v = 3#2 → exec (.word7Action3 n v) s = .next { s with submitError := true }) ∧
    (∀ k : Fin 7, exec (.slotWordWrite n k v) s = .next
      (if (s.slots.get n).state = .free then
        { s with slots := s.slots.set n.val { s.slots.get n with words := (s.slots.get n).wordsWith k v } n.isLt }
      else { s with submitError := true }))

/-- Writes of the registers: INT_STATUS clears SUBMIT_ERROR by a 1 in bit 2 and changes nothing by its other bits; INT_ENABLE
replaces the three enables; RESPONSE_LIMIT stores the low twelve bits; CONTROL with SOFT_RESET 0 sets LINK_ENABLE to bit 0.
Nothing else changes (R160, R173, R174, R175). -/
def Obligations.RegisterWritesStoreTheirFields : Prop :=
  ∀ (s : State) (v : Word), s.resetLow = false →
    exec (.intStatusWrite v) s = .next (if v.getLsbD 2 = true then { s with submitError := false } else s) ∧
    exec (.intEnableWrite v) s = .next { s with intEnable := v.extractLsb' 0 3 } ∧
    exec (.responseLimitWrite v) s = .next { s with responseLimit := v.extractLsb' 0 12 } ∧
    (v.getLsbD 1 = false → exec (.linkEnable v) s = .next { s with linkEnable := v.getLsbD 0 })

/-- The window by its accesses. A write of other than one aligned word changes nothing but SUBMIT_ERROR, which it sets when some
byte of it lies in a listed word: 0x000 to 0x013 or 0x100 to 0x1FF. The four bytes of one aligned word, least significant first,
write that word: ID and unlisted words ignore it, and every other is its register's or slot word's write. A read of one byte
returns that byte of the word that holds it, and bits 24 and 25 of word 7 read 0 (R166, R175, R178). That the four bytes of one
aligned word act as the row of that word, and that an access of no bytes changes nothing, is the model's choice (log 9). -/
def Obligations.WindowAccessesOfOtherThanOneWordAreRefused : Prop :=
  ∀ s : State, s.resetLow = false →
    (∀ (off : BitVec 12) (bytes : List Byte), off.toNat + bytes.length ≤ 4096 → ¬(off.toNat % 4 = 0 ∧ bytes.length = 4) →
      ((∃ i < bytes.length, off.toNat + i < 0x14 ∨ 0x100 ≤ off.toNat + i ∧ off.toNat + i < 0x200) →
        exec (.registerWrite off bytes) s = .next { s with submitError := true }) ∧
      ((∀ i < bytes.length, ¬(off.toNat + i < 0x14 ∨ 0x100 ≤ off.toNat + i ∧ off.toNat + i < 0x200)) →
        exec (.registerWrite off bytes) s = .next s)) ∧
    (∀ (off : BitVec 12) (b₀ b₁ b₂ b₃ : Byte), off.toNat % 4 = 0 →
      (off.toNat = 0 ∨ 0x14 ≤ off.toNat ∧ off.toNat < 0x100 ∨ 0x200 ≤ off.toNat →
        exec (.registerWrite off [b₀, b₁, b₂, b₃]) s = .next s) ∧
      (off.toNat = 4 → (b₃ ++ b₂ ++ b₁ ++ b₀).getLsbD 1 = false →
        exec (.registerWrite off [b₀, b₁, b₂, b₃]) s = exec (.linkEnable (b₃ ++ b₂ ++ b₁ ++ b₀)) s) ∧
      (off.toNat = 4 → (b₃ ++ b₂ ++ b₁ ++ b₀).getLsbD 1 = true →
        exec (.registerWrite off [b₀, b₁, b₂, b₃]) s = exec (.softReset (b₃ ++ b₂ ++ b₁ ++ b₀)) s) ∧
      (off.toNat = 8 → exec (.registerWrite off [b₀, b₁, b₂, b₃]) s = exec (.intStatusWrite (b₃ ++ b₂ ++ b₁ ++ b₀)) s) ∧
      (off.toNat = 12 → exec (.registerWrite off [b₀, b₁, b₂, b₃]) s = exec (.intEnableWrite (b₃ ++ b₂ ++ b₁ ++ b₀)) s) ∧
      (off.toNat = 16 → exec (.registerWrite off [b₀, b₁, b₂, b₃]) s = exec (.responseLimitWrite (b₃ ++ b₂ ++ b₁ ++ b₀)) s) ∧
      (∀ (n : SlotId) (k : Fin 7), off.toNat = 0x100 + 32 * n.val + 4 * k.val →
        exec (.registerWrite off [b₀, b₁, b₂, b₃]) s = exec (.slotWordWrite n k (b₃ ++ b₂ ++ b₁ ++ b₀)) s) ∧
      (∀ n : SlotId, off.toNat = 0x100 + 32 * n.val + 28 →
        (writtenAction (b₃ ++ b₂ ++ b₁ ++ b₀) = 0#2 → exec (.registerWrite off [b₀, b₁, b₂, b₃]) s = .next s) ∧
        (writtenAction (b₃ ++ b₂ ++ b₁ ++ b₀) = 1#2 →
          exec (.registerWrite off [b₀, b₁, b₂, b₃]) s = exec (.start n (b₃ ++ b₂ ++ b₁ ++ b₀)) s) ∧
        (writtenAction (b₃ ++ b₂ ++ b₁ ++ b₀) = 2#2 →
          exec (.registerWrite off [b₀, b₁, b₂, b₃]) s = exec (.ack n (b₃ ++ b₂ ++ b₁ ++ b₀)) s) ∧
        (writtenAction (b₃ ++ b₂ ++ b₁ ++ b₀) = 3#2 →
          exec (.registerWrite off [b₀, b₁, b₂, b₃]) s = exec (.word7Action3 n (b₃ ++ b₂ ++ b₁ ++ b₀)) s))) ∧
    (∀ addr : Nat, windowByte s addr = (windowWord s (4 * (addr / 4))).extractLsb' (8 * (addr % 4)) 8) ∧
    (∀ n : SlotId, (windowWord s (0x100 + 32 * n.val + 28)).extractLsb' 24 2 = 0)

/-- What the window reads while RESET_N is high, and INT_N: ID, CONTROL, INT_STATUS with its causes CMD_NOTIFY, FAULT and
SUBMIT_ERROR, INT_ENABLE, RESPONSE_LIMIT, words 0 to 6 of a slot as last written, word 7 with state, status and qualifier and
0 in every other bit, 0 at an unlisted address; INT_N is low exactly while some cause is pending with its enable set (R37, R165,
R166, R172, R174, R175, R177). -/
def Obligations.WindowReadsAndInterruptLineShowTheState : Prop :=
  ∀ s : State, s.resetLow = false →
    windowWord s 0x000 = 0xA6C31201 ∧
    windowWord s 0x004 = (BitVec.ofBool s.linkEnable).setWidth 32 ∧
    ((windowWord s 0x008).getLsbD 0 = true ↔
      ∃ n : SlotId, ((s.slots.get n).state = .done ∨ (s.slots.get n).state = .failed) ∧
        (slotWord (s.slots.get n) 0).getLsbD 31 = true) ∧
    ((windowWord s 0x008).getLsbD 1 = true ↔ ∃ r : RequesterId, (s.requesters.get r).firstFault ≠ none) ∧
    ((windowWord s 0x008).getLsbD 2 = true ↔ s.submitError = true) ∧ (windowWord s 0x008).extractLsb' 3 29 = 0 ∧
    windowWord s 0x00C = s.intEnable.setWidth 32 ∧
    windowWord s 0x010 = s.responseLimit.setWidth 32 ∧
    (∀ (n : SlotId) (k : Fin 7), windowWord s (0x100 + 32 * n.val + 4 * k.val) = slotWord (s.slots.get n) k) ∧
    (∀ n : SlotId,
      ((windowWord s (0x100 + 32 * n.val + 28)).extractLsb' 0 3).toNat = slotStateCode (s.slots.get n).state ∧
      ((windowWord s (0x100 + 32 * n.val + 28)).extractLsb' 8 8).toNat = statusCode (s.slots.get n).status ∧
      (windowWord s (0x100 + 32 * n.val + 28)).getLsbD 16 = decide ((s.slots.get n).qualifier = .timeout) ∧
      (windowWord s (0x100 + 32 * n.val + 28)).extractLsb' 3 5 = 0 ∧
      (windowWord s (0x100 + 32 * n.val + 28)).extractLsb' 17 15 = 0) ∧
    (∀ addr : Nat, 0x14 ≤ addr → addr < 0x100 ∨ 0x200 ≤ addr → windowWord s addr = 0) ∧
    (intNLow s = true ↔ ∃ i < 3, (windowWord s 0x008).getLsbD i = true ∧ s.intEnable.getLsbD i = true)

/-! ## Laws that every step keeps -/

/-- The capacities: 32 cache entries, 24 pins, 4 walks, 8 parked transactions, 8 posted writes, 8 reads (R68, R87, R89, R107, R123). -/
def Obligations.EveryStepKeepsTheCapacities : Prop := KeptByStep CapacityLaw

/-- A fault count lies between 0 and 255 and is 0 exactly when no first fault is held (R34). -/
def Obligations.EveryStepKeepsFaultCountsInStepWithFirstFaults : Prop := KeptByStep FaultCountLaw

/-- A BUSY link tag is held by exactly one parked transaction or undiscarded read, a FREE one by none, so that no request is
answered twice (R49, R50); the law of translations stands beside it, since it is what keeps waiters off an orphaned walk (R89). -/
def Obligations.EveryStepKeepsOneHolderForABusyLinkTag : Prop := KeptByStep fun s => TranslationLaw s ∧ LinkTagLaw s

/-- A BUSY port tag is held by exactly one owner, of its kind, a FREE or QUARANTINED one by none (R154). -/
def Obligations.EveryStepKeepsOneOwnerForABusyPortTag : Prop := KeptByStep PortTagLaw

/-- The order of the queue and of the reads behind it: ISSUED writes stand ahead of QUEUED ones, and a read is held by exactly the
older writes that its ordering names and is in ORDER_WAIT exactly while one of them is still in the queue (R107, R112, R125 to
R127). -/
def Obligations.EveryStepKeepsTheOrderOfWritesAndReads : Prop := KeptByStep QueueOrderLaw ∧ KeptByStep ReadOrderLaw

/-- Views hold exactly the LIVE and RETIRING apertures of their owner in order of link base, with disjoint ranges and legal fields
(R1, R2, R6). -/
def Obligations.EveryStepKeepsTheViewsOrderedAndDisjoint : Prop := KeptByStep ApertureLaw

/-- Cached translations and live walks belong to LIVE MAPPED apertures of the current life, one for each page, and entries of a
RETIRING aperture bear the mark of its retirement, so that none outlives it (R4, R68, R69, R87, R101, R136, R141, R143). -/
def Obligations.EveryStepKeepsTranslationsAndRetirementsSound : Prop :=
  KeptByStep TranslationLaw ∧ KeptByStep fun s => TranslationLaw s ∧ RetireLaw s

/-- The submission list is the started slots, one taken command a target; parked transactions belong to ENABLED requesters; and
the entries of a HALTING requester bear the mark of its halt, so that a HALTED one has no work left; and a parked WRITE keeps the
enables outside its range clear and stands on a walk of a LIVE aperture of its own requester; and the preload waiters of the walks
are exactly the RUNNING slots, each a TC_PRELOAD of its walk's page (R8, R31, R43, R47, R82, R87, R93, R149, R165, R169, R170). -/
def Obligations.EveryStepKeepsCommandsAndHaltsSound : Prop :=
  KeptByStep CommandLaw ∧ KeptByStep ParkedLaw ∧ KeptByStep ParkedFormLaw ∧
  (KeptByStep fun s => ApertureLaw s ∧ WaiterLaw s) ∧ (KeptByStep fun s => TranslationLaw s ∧ CommandLaw s ∧ PreloadLaw s) ∧
  KeptByStep fun s => CommandLaw s ∧ ParkedLaw s ∧ HaltLaw s

/-- A slot is WAITING exactly while some posted write or read bears its mark (R138). -/
def Obligations.EveryStepKeepsWaitingSlotsMarked : Prop := KeptByStep DrainLaw

/-- While RESET_N is low every block holds its reset values, whatever the other interfaces do (R66, R163, R176). That the model's
records of outputs, the free values' index and the queue stand apart is its choice (log 7). -/
def Obligations.EveryStepKeepsTheResetValuesWhileThePinIsLow : Prop := KeptByStep ResetHeldLaw

/-! ## Headline results -/

/-- When an AP_RETIRE that waited is DONE, its aperture is FREE with the next generation, and no posted write, read, cache entry or
live walk, and with the walks no parked transaction, names the retired life (R143). -/
def Obligations.RetirementThatIsDoneLeavesNothingOfItsLife : Prop :=
  ∀ (s s' : State) (n : SlotId) (a : ApIndex), TranslationLaw s → RetireLaw s → s.retires n a → step s = .next s' →
    (s'.slots.get n).state = .done →
    (s'.apertures.get a).life = .free ∧ (s'.apertures.get a).generation = (s.apertures.get a).generation + 1 ∧
    (∀ e ∈ s'.pwq, e.aperture ≠ a) ∧ (∀ d ∈ s'.rdt, d.aperture ≠ a) ∧ (∀ e ∈ s'.tc, e.aperture ≠ a) ∧
    (∀ w ∈ s'.walks, w.aperture = a → w.orphaned = true ∧ w.waiters = [])

/-- When a REQ_HALT that waited is DONE, its requester is HALTED and the part holds no posted write, read or parked transaction of
it (R43, R149). -/
def Obligations.HaltThatIsDoneLeavesNoWorkOfItsRequester : Prop :=
  ∀ (s s' : State) (n : SlotId) (r : RequesterId), CommandLaw s → ParkedLaw s → HaltLaw s → s.halts n r → step s = .next s' →
    (s'.slots.get n).state = .done →
    (s'.requesters.get r).state = .halted ∧ (∀ e ∈ s'.pwq, e.requester ≠ r) ∧ (∀ d ∈ s'.rdt, d.requester ≠ r) ∧
    s'.parkedOf r = []

/-- At every step, a read that passes to ISSUED passes when the posted write queue holds no older write that its ordering places
ahead of it (R127). -/
def Obligations.ReadIsIssuedOnlyBehindTheWritesItFollows : Prop :=
  ∀ (s s' : State) (d : ReadEntry) (p : PortTagId), ReadOrderLaw s → step s = .next s' →
    d ∈ s'.rdt → d.state = .issued p → (∀ x ∈ s.rdt, x.seq = d.seq → ∀ p', x.state ≠ .issued p') →
    (∀ e ∈ s.pwq, e.seq < d.seq → holdsRead d.ordering d.requester d.memAddr e = false) ∧
    (∀ e ∈ s'.pwq, e.seq < d.seq → holdsRead d.ordering d.requester d.memAddr e = false)

/-- The part's side of the order that host memory keeps. A step whose command is a part reset (`resetsBy`) sends the reset signal
behind all that was sent before. Every other step issues nothing, or, by a grant of a FREE tag, one request under that tag behind
all that were sent before. And the request that an ISSUED walk, posted write or read waits for is the last one issued under its
tag, so that an answer under the tag is the answer to it (R154, R156, R158, R163, R174, R176). Which writes of CONTROL perform the
reset under another row's name is the model's choice (logs 9, 13). -/
def Obligations.EveryStepKeepsPortRequestsInOrderOfTheirGrants : Prop :=
  (∀ s s' : State, step s = .next s' →
    (∀ c rest, s.pending = c :: rest → s.resetsBy c → s'.portOut = s.portOut ++ [.resetSignal]) ∧
    ((∀ c rest, s.pending = c :: rest → ¬s.resetsBy c) →
      s'.portOut = s.portOut ∨
      ∃ p rest m, s.pending = .grant p :: rest ∧ s.portTags.get p = .free ∧ messageTag m = some p ∧
        s'.portOut = s.portOut ++ [m])) ∧
  KeptByStep fun s => PortTagLaw s ∧ OutstandingLaw s

/-- What an answer under the terms of R158 carries. An unmarked read's data goes out as DATA under its tag, and is exactly its
bytes as host memory held them when it performed the read: after every write issued before the read that it performs at all. A
walk's answer is the 8 bytes that host memory held at the entry address, after every such write (R94, R127, R129, R158). That
host memory is a history beside the state is the model's choice (log 10). -/
def Obligations.AnswersUnderTheTermsCarryWhatHostMemoryHeld : Prop :=
  ∀ (s : State) (p : PortTagId) (time : Nat) (start : MemAddr → Byte) (h : List HostEvent) (data : List Byte),
    OutstandingLaw s → s.mayAnswer start h p (.ok data) →
    (∀ l₁ d l₂, s.portTags.get p = .busy .read time → FirstOf (ReadEntry.holdsTag p) s.rdt l₁ d l₂ → d.discard = false →
      (∀ n, d.marks.get n = false) →
      ∃ k h₁ b h₂, s.owed p = some k ∧ h = h₁ ++ .performs k b :: h₂ ∧
        data = bytesAfter s.portOut start h₁ d.memAddr d.length ∧
        (∀ j c m, j < k → s.portOut[j]? = some m → isWriteRequest m = true → .performs j c ∈ h → .performs j c ∈ h₁) ∧
        exec (.answer p (.ok data)) s =
          .next { (s.withPortTag p .free).respond d.requester d.tag (.data data) with rdt := l₁ ++ l₂ }) ∧
    (∀ w ∈ s.walks, w.state = .issued p →
      ∃ k h₁ b h₂, s.owed p = some k ∧ h = h₁ ++ .performs k b :: h₂ ∧
        data = bytesAfter s.portOut start h₁ w.entryAddr 8 ∧
        ∀ j c m, j < k → s.portOut[j]? = some m → isWriteRequest m = true → .performs j c ∈ h → .performs j c ∈ h₁)
end

