-- ==== Sys2Proof/Laws/Lists.lean ====
section
/-! SUPPORT. What the list operations of Machine/Ops.lean give on a list split at the entry they reach. -/

namespace Sys2Proof.Machine

theorem updateFirst_split {α : Type} (p : α → Bool) (f : α → α) {l₁ l₂ : List α} {x : α} (h₁ : ∀ y ∈ l₁, p y = false)
    (hx : p x = true) : updateFirst p f (l₁ ++ x :: l₂) = l₁ ++ f x :: l₂ := by
  induction l₁ with
  | nil => simp [updateFirst, hx]
  | cons y ys ih =>
    have hy : p y = false := h₁ y (by simp)
    simp [updateFirst, hy, ih fun z hz => h₁ z (by simp [hz])]

theorem updateFirst_none {α : Type} (p : α → Bool) (f : α → α) {l : List α} (h : ∀ y ∈ l, p y = false) :
    updateFirst p f l = l := by
  induction l with
  | nil => rfl
  | cons y ys ih => simp [updateFirst, h y (by simp), ih fun z hz => h z (by simp [hz])]

@[simp] theorem updateFirst_length {α : Type} (p : α → Bool) (f : α → α) (l : List α) :
    (updateFirst p f l).length = l.length := by
  induction l with
  | nil => rfl
  | cons y ys ih => by_cases h : p y <;> simp [updateFirst, h, ih]

/-- Either no entry meets the test, or the list splits at the first that does. -/
theorem split_at_first {α : Type} (p : α → Bool) (l : List α) :
    (∀ y ∈ l, p y = false) ∨ ∃ l₁ x l₂, l = l₁ ++ x :: l₂ ∧ (∀ y ∈ l₁, p y = false) ∧ p x = true := by
  induction l with
  | nil => left; simp
  | cons y ys ih =>
    by_cases h : p y = true
    · exact .inr ⟨[], y, ys, rfl, by simp, h⟩
    · have hy : p y = false := by simpa using h
      rcases ih with ih | ⟨l₁, x, l₂, rfl, h₁, hx⟩
      · exact .inl (by simpa [hy] using ih)
      · exact .inr ⟨y :: l₁, x, l₂, rfl, by simpa [hy] using h₁, hx⟩

theorem find_split {α : Type} (p : α → Bool) {l₁ l₂ : List α} {x : α} (h₁ : ∀ y ∈ l₁, p y = false) (hx : p x = true) :
    (l₁ ++ x :: l₂).find? p = some x := by
  have hn : l₁.find? p = none := by simpa using h₁
  simp [List.find?_append, hn, hx]

theorem find_none {α : Type} (p : α → Bool) {l : List α} (h : ∀ y ∈ l, p y = false) : l.find? p = none := by
  simpa using h

theorem eraseP_split {α : Type} (p : α → Bool) {l₁ l₂ : List α} {x : α} (h₁ : ∀ y ∈ l₁, p y = false) (hx : p x = true) :
    (l₁ ++ x :: l₂).eraseP p = l₁ ++ l₂ := by
  induction l₁ with
  | nil => simp [hx]
  | cons y ys ih =>
    have hy : p y = false := h₁ y (by simp)
    simp [hy, ih fun z hz => h₁ z (by simp [hz])]

theorem eraseP_none {α : Type} (p : α → Bool) {l : List α} (h : ∀ y ∈ l, p y = false) : l.eraseP p = l :=
  List.eraseP_of_forall_not (by simpa using h)

theorem dropLast_split {α : Type} (p : α → Bool) {l₁ l₂ : List α} {x : α} (h₂ : ∀ y ∈ l₂, p y = false) (hx : p x = true) :
    dropLast p (l₁ ++ x :: l₂) = l₁ ++ l₂ := by
  have h : (l₁ ++ x :: l₂).reverse = l₂.reverse ++ x :: l₁.reverse := by simp
  rw [dropLast, h, eraseP_split p (by simpa using h₂) hx]
  simp

theorem toHead_split {p : TcEntry → Bool} {l₁ l₂ : List TcEntry} {e : TcEntry} (h₁ : ∀ y ∈ l₁, p y = false) (he : p e = true) :
    toHead p (l₁ ++ e :: l₂) = e :: (l₁ ++ l₂) := by
  simp [toHead, find_split p h₁ he, eraseP_split p h₁ he]

end Sys2Proof.Machine
end

