-- ==== Sys2Proof/Laws/State.lean ====
section
/-! SUPPORT. One lemma per field per update of the state, so that no later proof unfolds a record update, and what a table holds
after one entry of it was set. -/

namespace Sys2Proof.Machine

/-! ## Tables -/

@[simp] theorem vget_set_self {α : Type} {n : Nat} (v : Vector α n) (i : Fin n) (x : α) : (v.set i.val x i.isLt).get i = x := by
  simp [Vector.get_eq_getElem]

theorem vget_set_ne {α : Type} {n : Nat} (v : Vector α n) (i j : Fin n) (x : α) (h : i ≠ j) :
    (v.set i.val x i.isLt).get j = v.get j := by
  simp [Vector.get_eq_getElem, Fin.val_ne_of_ne h]

theorem vget_set {α : Type} {n : Nat} (v : Vector α n) (i j : Fin n) (x : α) :
    (v.set i.val x i.isLt).get j = if i = j then x else v.get j := by
  split
  · subst_vars; simp
  · exact vget_set_ne v i j x ‹_›

@[simp] theorem vget_replicate {α : Type} {n : Nat} (x : α) (i : Fin n) : (Vector.replicate n x).get i = x := by
  simp [Vector.get_eq_getElem]

theorem vext {α : Type} {n : Nat} {v w : Vector α n} (h : ∀ i : Fin n, v.get i = w.get i) : v = w := by
  apply Vector.ext
  intro i hi
  simpa [Vector.get_eq_getElem] using h ⟨i, hi⟩

@[simp] theorem vset_get {α : Type} {n : Nat} (v : Vector α n) (i : Fin n) : v.set i.val (v.get i) i.isLt = v := by
  apply vext
  intro j
  rw [vget_set]
  split
  · subst_vars; rfl
  · rfl

@[simp] theorem vset_set {α : Type} {n : Nat} (v : Vector α n) (i : Fin n) (x y : α) :
    (v.set i.val x i.isLt).set i.val y i.isLt = v.set i.val y i.isLt := by
  apply vext
  intro j
  simp only [vget_set]
  split <;> rfl

@[simp] theorem mapTable_get {α β : Type} {n : Nat} (f : α → β) (v : Vector α n) (i : Fin n) :
    (mapTable f v).get i = f (v.get i) := by
  simp [mapTable, Vector.get_eq_getElem]

@[simp] theorem addMark_get (n m : SlotId) (k : MarkSet) : (addMark n k).get m = (decide (n = m) || k.get m) := by
  simp only [addMark, vget_set]
  split <;> simp [*]

@[simp] theorem emptyMarks_get (n : SlotId) : MarkSet.empty.get n = false := by simp [MarkSet.empty]

/-! ## The entry that an update set -/

@[simp] theorem State.setLinkTag_linkTag (s : State) (r r' : RequesterId) (t t' : LinkTag) (x : TagState) :
    (s.setLinkTag r t x).linkTag r' t' = if r = r' ∧ t = t' then x else s.linkTag r' t' := by
  simp only [State.setLinkTag, State.linkTag, vget_set]
  by_cases hr : r = r'
  · subst hr
    by_cases ht : t = t' <;> simp [vget_set, ht]
  · simp [hr]

@[simp] theorem State.setAperture_get (s : State) (a b : ApIndex) (x : Aperture) :
    (s.setAperture a x).apertures.get b = if a = b then x else s.apertures.get b := vget_set ..

@[simp] theorem State.setView_get (s : State) (r r' : RequesterId) (v : List ApIndex) :
    (s.setView r v).views.get r' = if r = r' then v else s.views.get r' := vget_set ..

@[simp] theorem State.setRequester_get (s : State) (r r' : RequesterId) (x : Requester) :
    (s.setRequester r x).requesters.get r' = if r = r' then x else s.requesters.get r' := vget_set ..

@[simp] theorem State.setPortTag_get (s : State) (t t' : PortTagId) (x : PortTag) :
    (s.setPortTag t x).portTags.get t' = if t = t' then x else s.portTags.get t' := vget_set ..

@[simp] theorem State.setSlot_get (s : State) (n m : SlotId) (x : Slot) :
    (s.setSlot n x).slots.get m = if n = m then x else s.slots.get m := vget_set ..

/-- Two link tag tables with the same tags are the same table. -/
theorem linkTags_ext {v w : Vector (Vector TagState 4) 16} (h : ∀ (r : RequesterId) (t : LinkTag), (v.get r).get t = (w.get r).get t) :
    v = w := vext fun r => vext (h r)

/-! ### `State.setLinkTag` -/

@[simp] theorem State.setLinkTag_apertures (s : State) (r : RequesterId) (t : LinkTag) (x : TagState) : (s.setLinkTag r t x).apertures = s.apertures := rfl
@[simp] theorem State.setLinkTag_views (s : State) (r : RequesterId) (t : LinkTag) (x : TagState) : (s.setLinkTag r t x).views = s.views := rfl
@[simp] theorem State.setLinkTag_requesters (s : State) (r : RequesterId) (t : LinkTag) (x : TagState) : (s.setLinkTag r t x).requesters = s.requesters := rfl
@[simp] theorem State.setLinkTag_tc (s : State) (r : RequesterId) (t : LinkTag) (x : TagState) : (s.setLinkTag r t x).tc = s.tc := rfl
@[simp] theorem State.setLinkTag_walks (s : State) (r : RequesterId) (t : LinkTag) (x : TagState) : (s.setLinkTag r t x).walks = s.walks := rfl
@[simp] theorem State.setLinkTag_pwq (s : State) (r : RequesterId) (t : LinkTag) (x : TagState) : (s.setLinkTag r t x).pwq = s.pwq := rfl
@[simp] theorem State.setLinkTag_rdt (s : State) (r : RequesterId) (t : LinkTag) (x : TagState) : (s.setLinkTag r t x).rdt = s.rdt := rfl
@[simp] theorem State.setLinkTag_portTags (s : State) (r : RequesterId) (t : LinkTag) (x : TagState) : (s.setLinkTag r t x).portTags = s.portTags := rfl
@[simp] theorem State.setLinkTag_contest (s : State) (r : RequesterId) (t : LinkTag) (x : TagState) : (s.setLinkTag r t x).contest = s.contest := rfl
@[simp] theorem State.setLinkTag_responseLimit (s : State) (r : RequesterId) (t : LinkTag) (x : TagState) : (s.setLinkTag r t x).responseLimit = s.responseLimit := rfl
@[simp] theorem State.setLinkTag_slots (s : State) (r : RequesterId) (t : LinkTag) (x : TagState) : (s.setLinkTag r t x).slots = s.slots := rfl
@[simp] theorem State.setLinkTag_submission (s : State) (r : RequesterId) (t : LinkTag) (x : TagState) : (s.setLinkTag r t x).submission = s.submission := rfl
@[simp] theorem State.setLinkTag_submitError (s : State) (r : RequesterId) (t : LinkTag) (x : TagState) : (s.setLinkTag r t x).submitError = s.submitError := rfl
@[simp] theorem State.setLinkTag_intEnable (s : State) (r : RequesterId) (t : LinkTag) (x : TagState) : (s.setLinkTag r t x).intEnable = s.intEnable := rfl
@[simp] theorem State.setLinkTag_linkEnable (s : State) (r : RequesterId) (t : LinkTag) (x : TagState) : (s.setLinkTag r t x).linkEnable = s.linkEnable := rfl
@[simp] theorem State.setLinkTag_resetLow (s : State) (r : RequesterId) (t : LinkTag) (x : TagState) : (s.setLinkTag r t x).resetLow = s.resetLow := rfl
@[simp] theorem State.setLinkTag_linkOut (s : State) (r : RequesterId) (t : LinkTag) (x : TagState) : (s.setLinkTag r t x).linkOut = s.linkOut := rfl
@[simp] theorem State.setLinkTag_portOut (s : State) (r : RequesterId) (t : LinkTag) (x : TagState) : (s.setLinkTag r t x).portOut = s.portOut := rfl
@[simp] theorem State.setLinkTag_nextSeq (s : State) (r : RequesterId) (t : LinkTag) (x : TagState) : (s.setLinkTag r t x).nextSeq = s.nextSeq := rfl
@[simp] theorem State.setLinkTag_freeCount (s : State) (r : RequesterId) (t : LinkTag) (x : TagState) : (s.setLinkTag r t x).freeCount = s.freeCount := rfl
@[simp] theorem State.setLinkTag_pending (s : State) (r : RequesterId) (t : LinkTag) (x : TagState) : (s.setLinkTag r t x).pending = s.pending := rfl

/-! ### `State.setAperture` -/

@[simp] theorem State.setAperture_views (s : State) (a : ApIndex) (x : Aperture) : (s.setAperture a x).views = s.views := rfl
@[simp] theorem State.setAperture_requesters (s : State) (a : ApIndex) (x : Aperture) : (s.setAperture a x).requesters = s.requesters := rfl
@[simp] theorem State.setAperture_linkTags (s : State) (a : ApIndex) (x : Aperture) : (s.setAperture a x).linkTags = s.linkTags := rfl
@[simp] theorem State.setAperture_tc (s : State) (a : ApIndex) (x : Aperture) : (s.setAperture a x).tc = s.tc := rfl
@[simp] theorem State.setAperture_walks (s : State) (a : ApIndex) (x : Aperture) : (s.setAperture a x).walks = s.walks := rfl
@[simp] theorem State.setAperture_pwq (s : State) (a : ApIndex) (x : Aperture) : (s.setAperture a x).pwq = s.pwq := rfl
@[simp] theorem State.setAperture_rdt (s : State) (a : ApIndex) (x : Aperture) : (s.setAperture a x).rdt = s.rdt := rfl
@[simp] theorem State.setAperture_portTags (s : State) (a : ApIndex) (x : Aperture) : (s.setAperture a x).portTags = s.portTags := rfl
@[simp] theorem State.setAperture_contest (s : State) (a : ApIndex) (x : Aperture) : (s.setAperture a x).contest = s.contest := rfl
@[simp] theorem State.setAperture_responseLimit (s : State) (a : ApIndex) (x : Aperture) : (s.setAperture a x).responseLimit = s.responseLimit := rfl
@[simp] theorem State.setAperture_slots (s : State) (a : ApIndex) (x : Aperture) : (s.setAperture a x).slots = s.slots := rfl
@[simp] theorem State.setAperture_submission (s : State) (a : ApIndex) (x : Aperture) : (s.setAperture a x).submission = s.submission := rfl
@[simp] theorem State.setAperture_submitError (s : State) (a : ApIndex) (x : Aperture) : (s.setAperture a x).submitError = s.submitError := rfl
@[simp] theorem State.setAperture_intEnable (s : State) (a : ApIndex) (x : Aperture) : (s.setAperture a x).intEnable = s.intEnable := rfl
@[simp] theorem State.setAperture_linkEnable (s : State) (a : ApIndex) (x : Aperture) : (s.setAperture a x).linkEnable = s.linkEnable := rfl
@[simp] theorem State.setAperture_resetLow (s : State) (a : ApIndex) (x : Aperture) : (s.setAperture a x).resetLow = s.resetLow := rfl
@[simp] theorem State.setAperture_linkOut (s : State) (a : ApIndex) (x : Aperture) : (s.setAperture a x).linkOut = s.linkOut := rfl
@[simp] theorem State.setAperture_portOut (s : State) (a : ApIndex) (x : Aperture) : (s.setAperture a x).portOut = s.portOut := rfl
@[simp] theorem State.setAperture_nextSeq (s : State) (a : ApIndex) (x : Aperture) : (s.setAperture a x).nextSeq = s.nextSeq := rfl
@[simp] theorem State.setAperture_freeCount (s : State) (a : ApIndex) (x : Aperture) : (s.setAperture a x).freeCount = s.freeCount := rfl
@[simp] theorem State.setAperture_pending (s : State) (a : ApIndex) (x : Aperture) : (s.setAperture a x).pending = s.pending := rfl

/-! ### `State.setView` -/

@[simp] theorem State.setView_apertures (s : State) (r : RequesterId) (v : List ApIndex) : (s.setView r v).apertures = s.apertures := rfl
@[simp] theorem State.setView_requesters (s : State) (r : RequesterId) (v : List ApIndex) : (s.setView r v).requesters = s.requesters := rfl
@[simp] theorem State.setView_linkTags (s : State) (r : RequesterId) (v : List ApIndex) : (s.setView r v).linkTags = s.linkTags := rfl
@[simp] theorem State.setView_tc (s : State) (r : RequesterId) (v : List ApIndex) : (s.setView r v).tc = s.tc := rfl
@[simp] theorem State.setView_walks (s : State) (r : RequesterId) (v : List ApIndex) : (s.setView r v).walks = s.walks := rfl
@[simp] theorem State.setView_pwq (s : State) (r : RequesterId) (v : List ApIndex) : (s.setView r v).pwq = s.pwq := rfl
@[simp] theorem State.setView_rdt (s : State) (r : RequesterId) (v : List ApIndex) : (s.setView r v).rdt = s.rdt := rfl
@[simp] theorem State.setView_portTags (s : State) (r : RequesterId) (v : List ApIndex) : (s.setView r v).portTags = s.portTags := rfl
@[simp] theorem State.setView_contest (s : State) (r : RequesterId) (v : List ApIndex) : (s.setView r v).contest = s.contest := rfl
@[simp] theorem State.setView_responseLimit (s : State) (r : RequesterId) (v : List ApIndex) : (s.setView r v).responseLimit = s.responseLimit := rfl
@[simp] theorem State.setView_slots (s : State) (r : RequesterId) (v : List ApIndex) : (s.setView r v).slots = s.slots := rfl
@[simp] theorem State.setView_submission (s : State) (r : RequesterId) (v : List ApIndex) : (s.setView r v).submission = s.submission := rfl
@[simp] theorem State.setView_submitError (s : State) (r : RequesterId) (v : List ApIndex) : (s.setView r v).submitError = s.submitError := rfl
@[simp] theorem State.setView_intEnable (s : State) (r : RequesterId) (v : List ApIndex) : (s.setView r v).intEnable = s.intEnable := rfl
@[simp] theorem State.setView_linkEnable (s : State) (r : RequesterId) (v : List ApIndex) : (s.setView r v).linkEnable = s.linkEnable := rfl
@[simp] theorem State.setView_resetLow (s : State) (r : RequesterId) (v : List ApIndex) : (s.setView r v).resetLow = s.resetLow := rfl
@[simp] theorem State.setView_linkOut (s : State) (r : RequesterId) (v : List ApIndex) : (s.setView r v).linkOut = s.linkOut := rfl
@[simp] theorem State.setView_portOut (s : State) (r : RequesterId) (v : List ApIndex) : (s.setView r v).portOut = s.portOut := rfl
@[simp] theorem State.setView_nextSeq (s : State) (r : RequesterId) (v : List ApIndex) : (s.setView r v).nextSeq = s.nextSeq := rfl
@[simp] theorem State.setView_freeCount (s : State) (r : RequesterId) (v : List ApIndex) : (s.setView r v).freeCount = s.freeCount := rfl
@[simp] theorem State.setView_pending (s : State) (r : RequesterId) (v : List ApIndex) : (s.setView r v).pending = s.pending := rfl

/-! ### `State.setRequester` -/

@[simp] theorem State.setRequester_apertures (s : State) (r : RequesterId) (x : Requester) : (s.setRequester r x).apertures = s.apertures := rfl
@[simp] theorem State.setRequester_views (s : State) (r : RequesterId) (x : Requester) : (s.setRequester r x).views = s.views := rfl
@[simp] theorem State.setRequester_linkTags (s : State) (r : RequesterId) (x : Requester) : (s.setRequester r x).linkTags = s.linkTags := rfl
@[simp] theorem State.setRequester_tc (s : State) (r : RequesterId) (x : Requester) : (s.setRequester r x).tc = s.tc := rfl
@[simp] theorem State.setRequester_walks (s : State) (r : RequesterId) (x : Requester) : (s.setRequester r x).walks = s.walks := rfl
@[simp] theorem State.setRequester_pwq (s : State) (r : RequesterId) (x : Requester) : (s.setRequester r x).pwq = s.pwq := rfl
@[simp] theorem State.setRequester_rdt (s : State) (r : RequesterId) (x : Requester) : (s.setRequester r x).rdt = s.rdt := rfl
@[simp] theorem State.setRequester_portTags (s : State) (r : RequesterId) (x : Requester) : (s.setRequester r x).portTags = s.portTags := rfl
@[simp] theorem State.setRequester_contest (s : State) (r : RequesterId) (x : Requester) : (s.setRequester r x).contest = s.contest := rfl
@[simp] theorem State.setRequester_responseLimit (s : State) (r : RequesterId) (x : Requester) : (s.setRequester r x).responseLimit = s.responseLimit := rfl
@[simp] theorem State.setRequester_slots (s : State) (r : RequesterId) (x : Requester) : (s.setRequester r x).slots = s.slots := rfl
@[simp] theorem State.setRequester_submission (s : State) (r : RequesterId) (x : Requester) : (s.setRequester r x).submission = s.submission := rfl
@[simp] theorem State.setRequester_submitError (s : State) (r : RequesterId) (x : Requester) : (s.setRequester r x).submitError = s.submitError := rfl
@[simp] theorem State.setRequester_intEnable (s : State) (r : RequesterId) (x : Requester) : (s.setRequester r x).intEnable = s.intEnable := rfl
@[simp] theorem State.setRequester_linkEnable (s : State) (r : RequesterId) (x : Requester) : (s.setRequester r x).linkEnable = s.linkEnable := rfl
@[simp] theorem State.setRequester_resetLow (s : State) (r : RequesterId) (x : Requester) : (s.setRequester r x).resetLow = s.resetLow := rfl
@[simp] theorem State.setRequester_linkOut (s : State) (r : RequesterId) (x : Requester) : (s.setRequester r x).linkOut = s.linkOut := rfl
@[simp] theorem State.setRequester_portOut (s : State) (r : RequesterId) (x : Requester) : (s.setRequester r x).portOut = s.portOut := rfl
@[simp] theorem State.setRequester_nextSeq (s : State) (r : RequesterId) (x : Requester) : (s.setRequester r x).nextSeq = s.nextSeq := rfl
@[simp] theorem State.setRequester_freeCount (s : State) (r : RequesterId) (x : Requester) : (s.setRequester r x).freeCount = s.freeCount := rfl
@[simp] theorem State.setRequester_pending (s : State) (r : RequesterId) (x : Requester) : (s.setRequester r x).pending = s.pending := rfl

/-! ### `State.setPortTag` -/

@[simp] theorem State.setPortTag_apertures (s : State) (t : PortTagId) (x : PortTag) : (s.setPortTag t x).apertures = s.apertures := rfl
@[simp] theorem State.setPortTag_views (s : State) (t : PortTagId) (x : PortTag) : (s.setPortTag t x).views = s.views := rfl
@[simp] theorem State.setPortTag_requesters (s : State) (t : PortTagId) (x : PortTag) : (s.setPortTag t x).requesters = s.requesters := rfl
@[simp] theorem State.setPortTag_linkTags (s : State) (t : PortTagId) (x : PortTag) : (s.setPortTag t x).linkTags = s.linkTags := rfl
@[simp] theorem State.setPortTag_tc (s : State) (t : PortTagId) (x : PortTag) : (s.setPortTag t x).tc = s.tc := rfl
@[simp] theorem State.setPortTag_walks (s : State) (t : PortTagId) (x : PortTag) : (s.setPortTag t x).walks = s.walks := rfl
@[simp] theorem State.setPortTag_pwq (s : State) (t : PortTagId) (x : PortTag) : (s.setPortTag t x).pwq = s.pwq := rfl
@[simp] theorem State.setPortTag_rdt (s : State) (t : PortTagId) (x : PortTag) : (s.setPortTag t x).rdt = s.rdt := rfl
@[simp] theorem State.setPortTag_contest (s : State) (t : PortTagId) (x : PortTag) : (s.setPortTag t x).contest = s.contest := rfl
@[simp] theorem State.setPortTag_responseLimit (s : State) (t : PortTagId) (x : PortTag) : (s.setPortTag t x).responseLimit = s.responseLimit := rfl
@[simp] theorem State.setPortTag_slots (s : State) (t : PortTagId) (x : PortTag) : (s.setPortTag t x).slots = s.slots := rfl
@[simp] theorem State.setPortTag_submission (s : State) (t : PortTagId) (x : PortTag) : (s.setPortTag t x).submission = s.submission := rfl
@[simp] theorem State.setPortTag_submitError (s : State) (t : PortTagId) (x : PortTag) : (s.setPortTag t x).submitError = s.submitError := rfl
@[simp] theorem State.setPortTag_intEnable (s : State) (t : PortTagId) (x : PortTag) : (s.setPortTag t x).intEnable = s.intEnable := rfl
@[simp] theorem State.setPortTag_linkEnable (s : State) (t : PortTagId) (x : PortTag) : (s.setPortTag t x).linkEnable = s.linkEnable := rfl
@[simp] theorem State.setPortTag_resetLow (s : State) (t : PortTagId) (x : PortTag) : (s.setPortTag t x).resetLow = s.resetLow := rfl
@[simp] theorem State.setPortTag_linkOut (s : State) (t : PortTagId) (x : PortTag) : (s.setPortTag t x).linkOut = s.linkOut := rfl
@[simp] theorem State.setPortTag_portOut (s : State) (t : PortTagId) (x : PortTag) : (s.setPortTag t x).portOut = s.portOut := rfl
@[simp] theorem State.setPortTag_nextSeq (s : State) (t : PortTagId) (x : PortTag) : (s.setPortTag t x).nextSeq = s.nextSeq := rfl
@[simp] theorem State.setPortTag_freeCount (s : State) (t : PortTagId) (x : PortTag) : (s.setPortTag t x).freeCount = s.freeCount := rfl
@[simp] theorem State.setPortTag_pending (s : State) (t : PortTagId) (x : PortTag) : (s.setPortTag t x).pending = s.pending := rfl

/-! ### `State.setSlot` -/

@[simp] theorem State.setSlot_apertures (s : State) (n : SlotId) (x : Slot) : (s.setSlot n x).apertures = s.apertures := rfl
@[simp] theorem State.setSlot_views (s : State) (n : SlotId) (x : Slot) : (s.setSlot n x).views = s.views := rfl
@[simp] theorem State.setSlot_requesters (s : State) (n : SlotId) (x : Slot) : (s.setSlot n x).requesters = s.requesters := rfl
@[simp] theorem State.setSlot_linkTags (s : State) (n : SlotId) (x : Slot) : (s.setSlot n x).linkTags = s.linkTags := rfl
@[simp] theorem State.setSlot_tc (s : State) (n : SlotId) (x : Slot) : (s.setSlot n x).tc = s.tc := rfl
@[simp] theorem State.setSlot_walks (s : State) (n : SlotId) (x : Slot) : (s.setSlot n x).walks = s.walks := rfl
@[simp] theorem State.setSlot_pwq (s : State) (n : SlotId) (x : Slot) : (s.setSlot n x).pwq = s.pwq := rfl
@[simp] theorem State.setSlot_rdt (s : State) (n : SlotId) (x : Slot) : (s.setSlot n x).rdt = s.rdt := rfl
@[simp] theorem State.setSlot_portTags (s : State) (n : SlotId) (x : Slot) : (s.setSlot n x).portTags = s.portTags := rfl
@[simp] theorem State.setSlot_contest (s : State) (n : SlotId) (x : Slot) : (s.setSlot n x).contest = s.contest := rfl
@[simp] theorem State.setSlot_responseLimit (s : State) (n : SlotId) (x : Slot) : (s.setSlot n x).responseLimit = s.responseLimit := rfl
@[simp] theorem State.setSlot_submission (s : State) (n : SlotId) (x : Slot) : (s.setSlot n x).submission = s.submission := rfl
@[simp] theorem State.setSlot_submitError (s : State) (n : SlotId) (x : Slot) : (s.setSlot n x).submitError = s.submitError := rfl
@[simp] theorem State.setSlot_intEnable (s : State) (n : SlotId) (x : Slot) : (s.setSlot n x).intEnable = s.intEnable := rfl
@[simp] theorem State.setSlot_linkEnable (s : State) (n : SlotId) (x : Slot) : (s.setSlot n x).linkEnable = s.linkEnable := rfl
@[simp] theorem State.setSlot_resetLow (s : State) (n : SlotId) (x : Slot) : (s.setSlot n x).resetLow = s.resetLow := rfl
@[simp] theorem State.setSlot_linkOut (s : State) (n : SlotId) (x : Slot) : (s.setSlot n x).linkOut = s.linkOut := rfl
@[simp] theorem State.setSlot_portOut (s : State) (n : SlotId) (x : Slot) : (s.setSlot n x).portOut = s.portOut := rfl
@[simp] theorem State.setSlot_nextSeq (s : State) (n : SlotId) (x : Slot) : (s.setSlot n x).nextSeq = s.nextSeq := rfl
@[simp] theorem State.setSlot_freeCount (s : State) (n : SlotId) (x : Slot) : (s.setSlot n x).freeCount = s.freeCount := rfl
@[simp] theorem State.setSlot_pending (s : State) (n : SlotId) (x : Slot) : (s.setSlot n x).pending = s.pending := rfl

/-! ### `State.writeWord` -/

@[simp] theorem State.writeWord_apertures (s : State) (n : SlotId) (k : Fin 7) (v : Word) : (s.writeWord n k v).apertures = s.apertures := rfl
@[simp] theorem State.writeWord_views (s : State) (n : SlotId) (k : Fin 7) (v : Word) : (s.writeWord n k v).views = s.views := rfl
@[simp] theorem State.writeWord_requesters (s : State) (n : SlotId) (k : Fin 7) (v : Word) : (s.writeWord n k v).requesters = s.requesters := rfl
@[simp] theorem State.writeWord_linkTags (s : State) (n : SlotId) (k : Fin 7) (v : Word) : (s.writeWord n k v).linkTags = s.linkTags := rfl
@[simp] theorem State.writeWord_tc (s : State) (n : SlotId) (k : Fin 7) (v : Word) : (s.writeWord n k v).tc = s.tc := rfl
@[simp] theorem State.writeWord_walks (s : State) (n : SlotId) (k : Fin 7) (v : Word) : (s.writeWord n k v).walks = s.walks := rfl
@[simp] theorem State.writeWord_pwq (s : State) (n : SlotId) (k : Fin 7) (v : Word) : (s.writeWord n k v).pwq = s.pwq := rfl
@[simp] theorem State.writeWord_rdt (s : State) (n : SlotId) (k : Fin 7) (v : Word) : (s.writeWord n k v).rdt = s.rdt := rfl
@[simp] theorem State.writeWord_portTags (s : State) (n : SlotId) (k : Fin 7) (v : Word) : (s.writeWord n k v).portTags = s.portTags := rfl
@[simp] theorem State.writeWord_contest (s : State) (n : SlotId) (k : Fin 7) (v : Word) : (s.writeWord n k v).contest = s.contest := rfl
@[simp] theorem State.writeWord_responseLimit (s : State) (n : SlotId) (k : Fin 7) (v : Word) : (s.writeWord n k v).responseLimit = s.responseLimit := rfl
@[simp] theorem State.writeWord_submission (s : State) (n : SlotId) (k : Fin 7) (v : Word) : (s.writeWord n k v).submission = s.submission := rfl
@[simp] theorem State.writeWord_submitError (s : State) (n : SlotId) (k : Fin 7) (v : Word) : (s.writeWord n k v).submitError = s.submitError := rfl
@[simp] theorem State.writeWord_intEnable (s : State) (n : SlotId) (k : Fin 7) (v : Word) : (s.writeWord n k v).intEnable = s.intEnable := rfl
@[simp] theorem State.writeWord_linkEnable (s : State) (n : SlotId) (k : Fin 7) (v : Word) : (s.writeWord n k v).linkEnable = s.linkEnable := rfl
@[simp] theorem State.writeWord_resetLow (s : State) (n : SlotId) (k : Fin 7) (v : Word) : (s.writeWord n k v).resetLow = s.resetLow := rfl
@[simp] theorem State.writeWord_linkOut (s : State) (n : SlotId) (k : Fin 7) (v : Word) : (s.writeWord n k v).linkOut = s.linkOut := rfl
@[simp] theorem State.writeWord_portOut (s : State) (n : SlotId) (k : Fin 7) (v : Word) : (s.writeWord n k v).portOut = s.portOut := rfl
@[simp] theorem State.writeWord_nextSeq (s : State) (n : SlotId) (k : Fin 7) (v : Word) : (s.writeWord n k v).nextSeq = s.nextSeq := rfl
@[simp] theorem State.writeWord_freeCount (s : State) (n : SlotId) (k : Fin 7) (v : Word) : (s.writeWord n k v).freeCount = s.freeCount := rfl
@[simp] theorem State.writeWord_pending (s : State) (n : SlotId) (k : Fin 7) (v : Word) : (s.writeWord n k v).pending = s.pending := rfl

/-! ### `State.setSlotState` -/

@[simp] theorem State.setSlotState_apertures (s : State) (n : SlotId) (st : SlotState) : (s.setSlotState n st).apertures = s.apertures := rfl
@[simp] theorem State.setSlotState_views (s : State) (n : SlotId) (st : SlotState) : (s.setSlotState n st).views = s.views := rfl
@[simp] theorem State.setSlotState_requesters (s : State) (n : SlotId) (st : SlotState) : (s.setSlotState n st).requesters = s.requesters := rfl
@[simp] theorem State.setSlotState_linkTags (s : State) (n : SlotId) (st : SlotState) : (s.setSlotState n st).linkTags = s.linkTags := rfl
@[simp] theorem State.setSlotState_tc (s : State) (n : SlotId) (st : SlotState) : (s.setSlotState n st).tc = s.tc := rfl
@[simp] theorem State.setSlotState_walks (s : State) (n : SlotId) (st : SlotState) : (s.setSlotState n st).walks = s.walks := rfl
@[simp] theorem State.setSlotState_pwq (s : State) (n : SlotId) (st : SlotState) : (s.setSlotState n st).pwq = s.pwq := rfl
@[simp] theorem State.setSlotState_rdt (s : State) (n : SlotId) (st : SlotState) : (s.setSlotState n st).rdt = s.rdt := rfl
@[simp] theorem State.setSlotState_portTags (s : State) (n : SlotId) (st : SlotState) : (s.setSlotState n st).portTags = s.portTags := rfl
@[simp] theorem State.setSlotState_contest (s : State) (n : SlotId) (st : SlotState) : (s.setSlotState n st).contest = s.contest := rfl
@[simp] theorem State.setSlotState_responseLimit (s : State) (n : SlotId) (st : SlotState) : (s.setSlotState n st).responseLimit = s.responseLimit := rfl
@[simp] theorem State.setSlotState_submission (s : State) (n : SlotId) (st : SlotState) : (s.setSlotState n st).submission = s.submission := rfl
@[simp] theorem State.setSlotState_submitError (s : State) (n : SlotId) (st : SlotState) : (s.setSlotState n st).submitError = s.submitError := rfl
@[simp] theorem State.setSlotState_intEnable (s : State) (n : SlotId) (st : SlotState) : (s.setSlotState n st).intEnable = s.intEnable := rfl
@[simp] theorem State.setSlotState_linkEnable (s : State) (n : SlotId) (st : SlotState) : (s.setSlotState n st).linkEnable = s.linkEnable := rfl
@[simp] theorem State.setSlotState_resetLow (s : State) (n : SlotId) (st : SlotState) : (s.setSlotState n st).resetLow = s.resetLow := rfl
@[simp] theorem State.setSlotState_linkOut (s : State) (n : SlotId) (st : SlotState) : (s.setSlotState n st).linkOut = s.linkOut := rfl
@[simp] theorem State.setSlotState_portOut (s : State) (n : SlotId) (st : SlotState) : (s.setSlotState n st).portOut = s.portOut := rfl
@[simp] theorem State.setSlotState_nextSeq (s : State) (n : SlotId) (st : SlotState) : (s.setSlotState n st).nextSeq = s.nextSeq := rfl
@[simp] theorem State.setSlotState_freeCount (s : State) (n : SlotId) (st : SlotState) : (s.setSlotState n st).freeCount = s.freeCount := rfl
@[simp] theorem State.setSlotState_pending (s : State) (n : SlotId) (st : SlotState) : (s.setSlotState n st).pending = s.pending := rfl

/-! ### `State.endSlot` -/

@[simp] theorem State.endSlot_apertures (s : State) (n : SlotId) (st : SlotState) (c : Status) (q : Qualifier) : (s.endSlot n st c q).apertures = s.apertures := rfl
@[simp] theorem State.endSlot_views (s : State) (n : SlotId) (st : SlotState) (c : Status) (q : Qualifier) : (s.endSlot n st c q).views = s.views := rfl
@[simp] theorem State.endSlot_requesters (s : State) (n : SlotId) (st : SlotState) (c : Status) (q : Qualifier) : (s.endSlot n st c q).requesters = s.requesters := rfl
@[simp] theorem State.endSlot_linkTags (s : State) (n : SlotId) (st : SlotState) (c : Status) (q : Qualifier) : (s.endSlot n st c q).linkTags = s.linkTags := rfl
@[simp] theorem State.endSlot_tc (s : State) (n : SlotId) (st : SlotState) (c : Status) (q : Qualifier) : (s.endSlot n st c q).tc = s.tc := rfl
@[simp] theorem State.endSlot_walks (s : State) (n : SlotId) (st : SlotState) (c : Status) (q : Qualifier) : (s.endSlot n st c q).walks = s.walks := rfl
@[simp] theorem State.endSlot_pwq (s : State) (n : SlotId) (st : SlotState) (c : Status) (q : Qualifier) : (s.endSlot n st c q).pwq = s.pwq := rfl
@[simp] theorem State.endSlot_rdt (s : State) (n : SlotId) (st : SlotState) (c : Status) (q : Qualifier) : (s.endSlot n st c q).rdt = s.rdt := rfl
@[simp] theorem State.endSlot_portTags (s : State) (n : SlotId) (st : SlotState) (c : Status) (q : Qualifier) : (s.endSlot n st c q).portTags = s.portTags := rfl
@[simp] theorem State.endSlot_contest (s : State) (n : SlotId) (st : SlotState) (c : Status) (q : Qualifier) : (s.endSlot n st c q).contest = s.contest := rfl
@[simp] theorem State.endSlot_responseLimit (s : State) (n : SlotId) (st : SlotState) (c : Status) (q : Qualifier) : (s.endSlot n st c q).responseLimit = s.responseLimit := rfl
@[simp] theorem State.endSlot_submitError (s : State) (n : SlotId) (st : SlotState) (c : Status) (q : Qualifier) : (s.endSlot n st c q).submitError = s.submitError := rfl
@[simp] theorem State.endSlot_intEnable (s : State) (n : SlotId) (st : SlotState) (c : Status) (q : Qualifier) : (s.endSlot n st c q).intEnable = s.intEnable := rfl
@[simp] theorem State.endSlot_linkEnable (s : State) (n : SlotId) (st : SlotState) (c : Status) (q : Qualifier) : (s.endSlot n st c q).linkEnable = s.linkEnable := rfl
@[simp] theorem State.endSlot_resetLow (s : State) (n : SlotId) (st : SlotState) (c : Status) (q : Qualifier) : (s.endSlot n st c q).resetLow = s.resetLow := rfl
@[simp] theorem State.endSlot_linkOut (s : State) (n : SlotId) (st : SlotState) (c : Status) (q : Qualifier) : (s.endSlot n st c q).linkOut = s.linkOut := rfl
@[simp] theorem State.endSlot_portOut (s : State) (n : SlotId) (st : SlotState) (c : Status) (q : Qualifier) : (s.endSlot n st c q).portOut = s.portOut := rfl
@[simp] theorem State.endSlot_nextSeq (s : State) (n : SlotId) (st : SlotState) (c : Status) (q : Qualifier) : (s.endSlot n st c q).nextSeq = s.nextSeq := rfl
@[simp] theorem State.endSlot_freeCount (s : State) (n : SlotId) (st : SlotState) (c : Status) (q : Qualifier) : (s.endSlot n st c q).freeCount = s.freeCount := rfl
@[simp] theorem State.endSlot_pending (s : State) (n : SlotId) (st : SlotState) (c : Status) (q : Qualifier) : (s.endSlot n st c q).pending = s.pending := rfl

/-! ### `State.doneSlot` -/

@[simp] theorem State.doneSlot_apertures (s : State) (n : SlotId) : (s.doneSlot n).apertures = s.apertures := rfl
@[simp] theorem State.doneSlot_views (s : State) (n : SlotId) : (s.doneSlot n).views = s.views := rfl
@[simp] theorem State.doneSlot_requesters (s : State) (n : SlotId) : (s.doneSlot n).requesters = s.requesters := rfl
@[simp] theorem State.doneSlot_linkTags (s : State) (n : SlotId) : (s.doneSlot n).linkTags = s.linkTags := rfl
@[simp] theorem State.doneSlot_tc (s : State) (n : SlotId) : (s.doneSlot n).tc = s.tc := rfl
@[simp] theorem State.doneSlot_walks (s : State) (n : SlotId) : (s.doneSlot n).walks = s.walks := rfl
@[simp] theorem State.doneSlot_pwq (s : State) (n : SlotId) : (s.doneSlot n).pwq = s.pwq := rfl
@[simp] theorem State.doneSlot_rdt (s : State) (n : SlotId) : (s.doneSlot n).rdt = s.rdt := rfl
@[simp] theorem State.doneSlot_portTags (s : State) (n : SlotId) : (s.doneSlot n).portTags = s.portTags := rfl
@[simp] theorem State.doneSlot_contest (s : State) (n : SlotId) : (s.doneSlot n).contest = s.contest := rfl
@[simp] theorem State.doneSlot_responseLimit (s : State) (n : SlotId) : (s.doneSlot n).responseLimit = s.responseLimit := rfl
@[simp] theorem State.doneSlot_submitError (s : State) (n : SlotId) : (s.doneSlot n).submitError = s.submitError := rfl
@[simp] theorem State.doneSlot_intEnable (s : State) (n : SlotId) : (s.doneSlot n).intEnable = s.intEnable := rfl
@[simp] theorem State.doneSlot_linkEnable (s : State) (n : SlotId) : (s.doneSlot n).linkEnable = s.linkEnable := rfl
@[simp] theorem State.doneSlot_resetLow (s : State) (n : SlotId) : (s.doneSlot n).resetLow = s.resetLow := rfl
@[simp] theorem State.doneSlot_linkOut (s : State) (n : SlotId) : (s.doneSlot n).linkOut = s.linkOut := rfl
@[simp] theorem State.doneSlot_portOut (s : State) (n : SlotId) : (s.doneSlot n).portOut = s.portOut := rfl
@[simp] theorem State.doneSlot_nextSeq (s : State) (n : SlotId) : (s.doneSlot n).nextSeq = s.nextSeq := rfl
@[simp] theorem State.doneSlot_freeCount (s : State) (n : SlotId) : (s.doneSlot n).freeCount = s.freeCount := rfl
@[simp] theorem State.doneSlot_pending (s : State) (n : SlotId) : (s.doneSlot n).pending = s.pending := rfl

/-! ### `State.failSlot` -/

@[simp] theorem State.failSlot_apertures (s : State) (n : SlotId) (c : Status) : (s.failSlot n c).apertures = s.apertures := rfl
@[simp] theorem State.failSlot_views (s : State) (n : SlotId) (c : Status) : (s.failSlot n c).views = s.views := rfl
@[simp] theorem State.failSlot_requesters (s : State) (n : SlotId) (c : Status) : (s.failSlot n c).requesters = s.requesters := rfl
@[simp] theorem State.failSlot_linkTags (s : State) (n : SlotId) (c : Status) : (s.failSlot n c).linkTags = s.linkTags := rfl
@[simp] theorem State.failSlot_tc (s : State) (n : SlotId) (c : Status) : (s.failSlot n c).tc = s.tc := rfl
@[simp] theorem State.failSlot_walks (s : State) (n : SlotId) (c : Status) : (s.failSlot n c).walks = s.walks := rfl
@[simp] theorem State.failSlot_pwq (s : State) (n : SlotId) (c : Status) : (s.failSlot n c).pwq = s.pwq := rfl
@[simp] theorem State.failSlot_rdt (s : State) (n : SlotId) (c : Status) : (s.failSlot n c).rdt = s.rdt := rfl
@[simp] theorem State.failSlot_portTags (s : State) (n : SlotId) (c : Status) : (s.failSlot n c).portTags = s.portTags := rfl
@[simp] theorem State.failSlot_contest (s : State) (n : SlotId) (c : Status) : (s.failSlot n c).contest = s.contest := rfl
@[simp] theorem State.failSlot_responseLimit (s : State) (n : SlotId) (c : Status) : (s.failSlot n c).responseLimit = s.responseLimit := rfl
@[simp] theorem State.failSlot_submitError (s : State) (n : SlotId) (c : Status) : (s.failSlot n c).submitError = s.submitError := rfl
@[simp] theorem State.failSlot_intEnable (s : State) (n : SlotId) (c : Status) : (s.failSlot n c).intEnable = s.intEnable := rfl
@[simp] theorem State.failSlot_linkEnable (s : State) (n : SlotId) (c : Status) : (s.failSlot n c).linkEnable = s.linkEnable := rfl
@[simp] theorem State.failSlot_resetLow (s : State) (n : SlotId) (c : Status) : (s.failSlot n c).resetLow = s.resetLow := rfl
@[simp] theorem State.failSlot_linkOut (s : State) (n : SlotId) (c : Status) : (s.failSlot n c).linkOut = s.linkOut := rfl
@[simp] theorem State.failSlot_portOut (s : State) (n : SlotId) (c : Status) : (s.failSlot n c).portOut = s.portOut := rfl
@[simp] theorem State.failSlot_nextSeq (s : State) (n : SlotId) (c : Status) : (s.failSlot n c).nextSeq = s.nextSeq := rfl
@[simp] theorem State.failSlot_freeCount (s : State) (n : SlotId) (c : Status) : (s.failSlot n c).freeCount = s.freeCount := rfl
@[simp] theorem State.failSlot_pending (s : State) (n : SlotId) (c : Status) : (s.failSlot n c).pending = s.pending := rfl

/-! ### `State.respond` -/

@[simp] theorem State.respond_apertures (s : State) (r : RequesterId) (t : LinkTag) (x : LinkReply) : (s.respond r t x).apertures = s.apertures := rfl
@[simp] theorem State.respond_views (s : State) (r : RequesterId) (t : LinkTag) (x : LinkReply) : (s.respond r t x).views = s.views := rfl
@[simp] theorem State.respond_requesters (s : State) (r : RequesterId) (t : LinkTag) (x : LinkReply) : (s.respond r t x).requesters = s.requesters := rfl
@[simp] theorem State.respond_tc (s : State) (r : RequesterId) (t : LinkTag) (x : LinkReply) : (s.respond r t x).tc = s.tc := rfl
@[simp] theorem State.respond_walks (s : State) (r : RequesterId) (t : LinkTag) (x : LinkReply) : (s.respond r t x).walks = s.walks := rfl
@[simp] theorem State.respond_pwq (s : State) (r : RequesterId) (t : LinkTag) (x : LinkReply) : (s.respond r t x).pwq = s.pwq := rfl
@[simp] theorem State.respond_rdt (s : State) (r : RequesterId) (t : LinkTag) (x : LinkReply) : (s.respond r t x).rdt = s.rdt := rfl
@[simp] theorem State.respond_portTags (s : State) (r : RequesterId) (t : LinkTag) (x : LinkReply) : (s.respond r t x).portTags = s.portTags := rfl
@[simp] theorem State.respond_contest (s : State) (r : RequesterId) (t : LinkTag) (x : LinkReply) : (s.respond r t x).contest = s.contest := rfl
@[simp] theorem State.respond_responseLimit (s : State) (r : RequesterId) (t : LinkTag) (x : LinkReply) : (s.respond r t x).responseLimit = s.responseLimit := rfl
@[simp] theorem State.respond_slots (s : State) (r : RequesterId) (t : LinkTag) (x : LinkReply) : (s.respond r t x).slots = s.slots := rfl
@[simp] theorem State.respond_submission (s : State) (r : RequesterId) (t : LinkTag) (x : LinkReply) : (s.respond r t x).submission = s.submission := rfl
@[simp] theorem State.respond_submitError (s : State) (r : RequesterId) (t : LinkTag) (x : LinkReply) : (s.respond r t x).submitError = s.submitError := rfl
@[simp] theorem State.respond_intEnable (s : State) (r : RequesterId) (t : LinkTag) (x : LinkReply) : (s.respond r t x).intEnable = s.intEnable := rfl
@[simp] theorem State.respond_linkEnable (s : State) (r : RequesterId) (t : LinkTag) (x : LinkReply) : (s.respond r t x).linkEnable = s.linkEnable := rfl
@[simp] theorem State.respond_resetLow (s : State) (r : RequesterId) (t : LinkTag) (x : LinkReply) : (s.respond r t x).resetLow = s.resetLow := rfl
@[simp] theorem State.respond_portOut (s : State) (r : RequesterId) (t : LinkTag) (x : LinkReply) : (s.respond r t x).portOut = s.portOut := rfl
@[simp] theorem State.respond_nextSeq (s : State) (r : RequesterId) (t : LinkTag) (x : LinkReply) : (s.respond r t x).nextSeq = s.nextSeq := rfl
@[simp] theorem State.respond_freeCount (s : State) (r : RequesterId) (t : LinkTag) (x : LinkReply) : (s.respond r t x).freeCount = s.freeCount := rfl
@[simp] theorem State.respond_pending (s : State) (r : RequesterId) (t : LinkTag) (x : LinkReply) : (s.respond r t x).pending = s.pending := rfl

/-! ### `State.useFree` -/

@[simp] theorem State.useFree_apertures (s : State) (n : Nat) (data : List Byte) : (s.useFree n data).apertures = s.apertures := rfl
@[simp] theorem State.useFree_views (s : State) (n : Nat) (data : List Byte) : (s.useFree n data).views = s.views := rfl
@[simp] theorem State.useFree_requesters (s : State) (n : Nat) (data : List Byte) : (s.useFree n data).requesters = s.requesters := rfl
@[simp] theorem State.useFree_linkTags (s : State) (n : Nat) (data : List Byte) : (s.useFree n data).linkTags = s.linkTags := rfl
@[simp] theorem State.useFree_tc (s : State) (n : Nat) (data : List Byte) : (s.useFree n data).tc = s.tc := rfl
@[simp] theorem State.useFree_walks (s : State) (n : Nat) (data : List Byte) : (s.useFree n data).walks = s.walks := rfl
@[simp] theorem State.useFree_pwq (s : State) (n : Nat) (data : List Byte) : (s.useFree n data).pwq = s.pwq := rfl
@[simp] theorem State.useFree_rdt (s : State) (n : Nat) (data : List Byte) : (s.useFree n data).rdt = s.rdt := rfl
@[simp] theorem State.useFree_portTags (s : State) (n : Nat) (data : List Byte) : (s.useFree n data).portTags = s.portTags := rfl
@[simp] theorem State.useFree_contest (s : State) (n : Nat) (data : List Byte) : (s.useFree n data).contest = s.contest := rfl
@[simp] theorem State.useFree_responseLimit (s : State) (n : Nat) (data : List Byte) : (s.useFree n data).responseLimit = s.responseLimit := rfl
@[simp] theorem State.useFree_slots (s : State) (n : Nat) (data : List Byte) : (s.useFree n data).slots = s.slots := rfl
@[simp] theorem State.useFree_submission (s : State) (n : Nat) (data : List Byte) : (s.useFree n data).submission = s.submission := rfl
@[simp] theorem State.useFree_submitError (s : State) (n : Nat) (data : List Byte) : (s.useFree n data).submitError = s.submitError := rfl
@[simp] theorem State.useFree_intEnable (s : State) (n : Nat) (data : List Byte) : (s.useFree n data).intEnable = s.intEnable := rfl
@[simp] theorem State.useFree_linkEnable (s : State) (n : Nat) (data : List Byte) : (s.useFree n data).linkEnable = s.linkEnable := rfl
@[simp] theorem State.useFree_resetLow (s : State) (n : Nat) (data : List Byte) : (s.useFree n data).resetLow = s.resetLow := rfl
@[simp] theorem State.useFree_linkOut (s : State) (n : Nat) (data : List Byte) : (s.useFree n data).linkOut = s.linkOut := rfl
@[simp] theorem State.useFree_portOut (s : State) (n : Nat) (data : List Byte) : (s.useFree n data).portOut = s.portOut := rfl
@[simp] theorem State.useFree_nextSeq (s : State) (n : Nat) (data : List Byte) : (s.useFree n data).nextSeq = s.nextSeq := rfl
@[simp] theorem State.useFree_pending (s : State) (n : Nat) (data : List Byte) : (s.useFree n data).pending = s.pending := rfl

/-! ### `State.issue` -/

@[simp] theorem State.issue_apertures (s : State) (t : PortTagId) (k : PortKind) (m : PortMessage) : (s.issue t k m).apertures = s.apertures := rfl
@[simp] theorem State.issue_views (s : State) (t : PortTagId) (k : PortKind) (m : PortMessage) : (s.issue t k m).views = s.views := rfl
@[simp] theorem State.issue_requesters (s : State) (t : PortTagId) (k : PortKind) (m : PortMessage) : (s.issue t k m).requesters = s.requesters := rfl
@[simp] theorem State.issue_linkTags (s : State) (t : PortTagId) (k : PortKind) (m : PortMessage) : (s.issue t k m).linkTags = s.linkTags := rfl
@[simp] theorem State.issue_tc (s : State) (t : PortTagId) (k : PortKind) (m : PortMessage) : (s.issue t k m).tc = s.tc := rfl
@[simp] theorem State.issue_walks (s : State) (t : PortTagId) (k : PortKind) (m : PortMessage) : (s.issue t k m).walks = s.walks := rfl
@[simp] theorem State.issue_pwq (s : State) (t : PortTagId) (k : PortKind) (m : PortMessage) : (s.issue t k m).pwq = s.pwq := rfl
@[simp] theorem State.issue_rdt (s : State) (t : PortTagId) (k : PortKind) (m : PortMessage) : (s.issue t k m).rdt = s.rdt := rfl
@[simp] theorem State.issue_contest (s : State) (t : PortTagId) (k : PortKind) (m : PortMessage) : (s.issue t k m).contest = s.contest := rfl
@[simp] theorem State.issue_responseLimit (s : State) (t : PortTagId) (k : PortKind) (m : PortMessage) : (s.issue t k m).responseLimit = s.responseLimit := rfl
@[simp] theorem State.issue_slots (s : State) (t : PortTagId) (k : PortKind) (m : PortMessage) : (s.issue t k m).slots = s.slots := rfl
@[simp] theorem State.issue_submission (s : State) (t : PortTagId) (k : PortKind) (m : PortMessage) : (s.issue t k m).submission = s.submission := rfl
@[simp] theorem State.issue_submitError (s : State) (t : PortTagId) (k : PortKind) (m : PortMessage) : (s.issue t k m).submitError = s.submitError := rfl
@[simp] theorem State.issue_intEnable (s : State) (t : PortTagId) (k : PortKind) (m : PortMessage) : (s.issue t k m).intEnable = s.intEnable := rfl
@[simp] theorem State.issue_linkEnable (s : State) (t : PortTagId) (k : PortKind) (m : PortMessage) : (s.issue t k m).linkEnable = s.linkEnable := rfl
@[simp] theorem State.issue_resetLow (s : State) (t : PortTagId) (k : PortKind) (m : PortMessage) : (s.issue t k m).resetLow = s.resetLow := rfl
@[simp] theorem State.issue_linkOut (s : State) (t : PortTagId) (k : PortKind) (m : PortMessage) : (s.issue t k m).linkOut = s.linkOut := rfl
@[simp] theorem State.issue_nextSeq (s : State) (t : PortTagId) (k : PortKind) (m : PortMessage) : (s.issue t k m).nextSeq = s.nextSeq := rfl
@[simp] theorem State.issue_freeCount (s : State) (t : PortTagId) (k : PortKind) (m : PortMessage) : (s.issue t k m).freeCount = s.freeCount := rfl
@[simp] theorem State.issue_pending (s : State) (t : PortTagId) (k : PortKind) (m : PortMessage) : (s.issue t k m).pending = s.pending := rfl

end Sys2Proof.Machine
end

