-- ==== Sys2Proof/Laws/Ops.lean ====
section
/-! SUPPORT. What each shared operation can do, said once. A frame lemma `op_frame` rewrites the state an operation gives as the
state before with the fields it may change: `congrArg State.tc (capture_frame s r f)` says that a capture keeps the cache. -/

namespace Sys2Proof.Machine

/-! ## Responses -/

@[simp] theorem respond_linkOut (s : State) (r : RequesterId) (t : LinkTag) (x : LinkReply) :
    (s.respond r t x).linkOut = s.linkOut ++ [{ requester := r, tag := t, reply := x }] := rfl

@[simp] theorem respond_linkTag (s : State) (r r' : RequesterId) (t t' : LinkTag) (x : LinkReply) :
    (s.respond r t x).linkTag r' t' = if r = r' ∧ t = t' then .free else s.linkTag r' t' := s.setLinkTag_linkTag r r' t t' .free

theorem respond_frame (s : State) (r : RequesterId) (t : LinkTag) (x : LinkReply) :
    s.respond r t x = { s with
      linkTags := (s.respond r t x).linkTags
      linkOut := s.linkOut ++ [{ requester := r, tag := t, reply := x }] } := rfl

theorem respondAll_frame (ps : List Request) (x : LinkReply) (s : State) :
    s.respondAll ps x = { s with
      linkTags := (s.respondAll ps x).linkTags
      linkOut := s.linkOut ++ repliesTo x ps } := by
  induction ps generalizing s with
  | nil => simp [State.respondAll, repliesTo]
  | cons p ps ih =>
    rw [State.respondAll, ih, respond_frame]
    simp [repliesTo]

/-- The tags of the requests answered become FREE and the others stay. -/
@[simp] theorem respondAll_linkTag (ps : List Request) (x : LinkReply) (s : State) (r : RequesterId) (t : LinkTag) :
    (s.respondAll ps x).linkTag r t =
      if ps.any (fun p => decide (p.requester = r) && decide (p.tag = t)) then .free else s.linkTag r t := by
  induction ps generalizing s with
  | nil => simp [State.respondAll]
  | cons p ps ih =>
    rw [State.respondAll, ih, respond_linkTag]
    by_cases h : p.requester = r ∧ p.tag = t
    · simp [h.1, h.2]
    · have h' : (decide (p.requester = r) && decide (p.tag = t)) = false := by
        simpa [Bool.and_eq_false_imp] using h
      simp [h, h']

theorem release_frame (s : State) (r : RequesterId) (x : LinkReply) :
    s.release r x = { s with
      walks := s.walks.map fun (w : Walk) => { w with waiters := w.waiters.filter fun p => decide (p.requester ≠ r) }
      linkTags := (s.release r x).linkTags
      linkOut := s.linkOut ++ repliesTo x (s.parkedOf r) } := by
  simp only [State.release]
  rw [respondAll_frame]

@[simp] theorem release_linkTag (s : State) (r r' : RequesterId) (t : LinkTag) (x : LinkReply) :
    (s.release r x).linkTag r' t =
      if (s.parkedOf r).any (fun p => decide (p.requester = r') && decide (p.tag = t)) then .free else s.linkTag r' t := by
  simp only [State.release, respondAll_linkTag]
  rfl

theorem orphan_frame (s : State) (p : Walk → Bool) (x : LinkReply) :
    s.orphan p x = { s with
      walks := s.walks.filterMap fun w => if p w then orphanWalk w else some w
      linkTags := (s.orphan p x).linkTags
      linkOut := s.linkOut ++ repliesTo x ((s.walks.filter p).flatMap Walk.waiters) } := by
  simp only [State.orphan]
  rw [respondAll_frame]

@[simp] theorem orphan_linkTag (s : State) (p : Walk → Bool) (x : LinkReply) (r : RequesterId) (t : LinkTag) :
    (s.orphan p x).linkTag r t =
      if ((s.walks.filter p).flatMap Walk.waiters).any (fun q => decide (q.requester = r) && decide (q.tag = t)) then .free
      else s.linkTag r t := by
  simp only [State.orphan, respondAll_linkTag]
  rfl

/-! ## Faults -/

theorem capture_stopping (s : State) (r : RequesterId) (f : FaultRecord) (h : (s.requesters.get r).stops) :
    s.capture r f =
      (s.setRequester r { recordFault (s.requesters.get r) f with state := .stopped }).release r (.abort .stopped) := by
  simp only [Requester.stops] at h
  simp [State.capture, h]

theorem capture_counting (s : State) (r : RequesterId) (f : FaultRecord) (h : ¬(s.requesters.get r).stops) :
    s.capture r f = s.setRequester r (recordFault (s.requesters.get r) f) := by
  simp only [Requester.stops] at h
  simp [State.capture, h]

theorem capture_frame (s : State) (r : RequesterId) (f : FaultRecord) :
    s.capture r f = { s with
      requesters := (s.capture r f).requesters
      walks := (s.capture r f).walks
      linkTags := (s.capture r f).linkTags
      linkOut := (s.capture r f).linkOut } := by
  by_cases h : (s.requesters.get r).stops
  · rw [capture_stopping s r f h, release_frame]
    rfl
  · rw [capture_counting s r f h]
    rfl

@[simp] theorem recordFault_stopOnFault (q : Requester) (f : FaultRecord) : (recordFault q f).stopOnFault = q.stopOnFault := by
  unfold recordFault; split <;> rfl

@[simp] theorem recordFault_state (q : Requester) (f : FaultRecord) : (recordFault q f).state = q.state := by
  unfold recordFault; split <;> rfl

/-- A capture touches one requester record: the fault joins it, and it stops where R36 says so. -/
theorem capture_requester (s : State) (r r' : RequesterId) (f : FaultRecord) :
    (s.capture r f).requesters.get r' =
      if r = r' then
        { recordFault (s.requesters.get r) f with
          state := if (s.requesters.get r).stops then .stopped else (s.requesters.get r).state }
      else s.requesters.get r' := by
  by_cases h : (s.requesters.get r).stops
  · rw [capture_stopping s r f h, release_frame, if_pos h]
    exact State.setRequester_get ..
  · rw [capture_counting s r f h]
    have : recordFault (s.requesters.get r) f =
        { recordFault (s.requesters.get r) f with state := (s.requesters.get r).state } := by
      rw [← recordFault_state (s.requesters.get r) f]
    simp only [State.setRequester_get, h, if_false]
    rw [← this]

/-- The walks after a capture: only waiters of a requester that it stops are gone. -/
theorem capture_walks (s : State) (r : RequesterId) (f : FaultRecord) :
    (s.capture r f).walks = s.walks ∨
      (s.requesters.get r).stops ∧ (s.capture r f).walks =
        s.walks.map fun (w : Walk) => { w with waiters := w.waiters.filter fun p => decide (p.requester ≠ r) } := by
  by_cases h : (s.requesters.get r).stops
  · right
    rw [capture_stopping s r f h, release_frame]
    exact ⟨h, rfl⟩
  · left
    rw [capture_counting s r f h]
    rfl

/-! ## Walks and the park pool -/

theorem park_frame (s : State) (a : ApIndex) (gen : Generation) (page : Nat) (q : Request) :
    s.park a gen page q = { s with
      walks := (s.park a gen page q).walks
      linkTags := (s.park a gen page q).linkTags
      linkOut := (s.park a gen page q).linkOut } := by
  unfold State.park
  split <;> rfl

theorem miss_frame (s : State) (a : ApIndex) (gen : Generation) (page : Nat) (m : MemAddr) (q : Request) :
    s.miss a gen page m q = { s with
      walks := (s.miss a gen page m q).walks
      linkTags := (s.miss a gen page m q).linkTags
      linkOut := (s.miss a gen page m q).linkOut } := by
  unfold State.miss
  split
  · exact park_frame ..
  · split
    · rw [park_frame]
    · rfl

/-! ## Entering the queue and the tracker -/

theorem enter_cases (s : State) (a : ApIndex) (ord : ReadOrder) (m : MemAddr) (q : Request) :
    (∃ en data, q.payload = .write en data ∧ s.pwq.length < 8 ∧
      s.enter a ord m q = (s.postWrite a m q en data).respond q.requester q.tag .accept) ∨
    (q.payload = .read ∧ s.rdt.length < 8 ∧ s.enter a ord m q = s.trackRead a ord m q) ∨
    (8 ≤ s.pwq.length ∧ s.enter a ord m q = s.respond q.requester q.tag (.retry .queueFull)) ∨
    (8 ≤ s.rdt.length ∧ s.enter a ord m q = s.respond q.requester q.tag (.retry .trackerFull)) := by
  cases hq : q.payload with
  | read =>
    by_cases h : s.rdt.length < 8
    · exact .inr (.inl ⟨rfl, h, by simp [State.enter, hq, Config.readEntries, h]⟩)
    · exact .inr (.inr (.inr ⟨by omega, by simp [State.enter, hq, Config.readEntries, h]⟩))
  | write en data =>
    by_cases h : s.pwq.length < 8
    · exact .inl ⟨en, data, rfl, h, by simp [State.enter, hq, Config.writeEntries, h]⟩
    · exact .inr (.inr (.inl ⟨by omega, by simp [State.enter, hq, Config.writeEntries, h]⟩))

theorem enter_frame (s : State) (a : ApIndex) (ord : ReadOrder) (m : MemAddr) (q : Request) :
    s.enter a ord m q = { s with
      pwq := (s.enter a ord m q).pwq
      rdt := (s.enter a ord m q).rdt
      nextSeq := (s.enter a ord m q).nextSeq
      linkTags := (s.enter a ord m q).linkTags
      linkOut := (s.enter a ord m q).linkOut } := by
  obtain ⟨en, data, -, -, h⟩ | ⟨-, -, h⟩ | ⟨-, h⟩ | ⟨-, h⟩ := enter_cases s a ord m q <;> rw [h] <;> rfl

/-! ## Slots and takes -/

@[simp] theorem endSlot_slot (s : State) (n m : SlotId) (st : SlotState) (c : Status) (q : Qualifier) :
    (s.endSlot n st c q).slots.get m =
      if n = m then { s.slots.get n with state := st, status := c, qualifier := q } else s.slots.get m :=
  State.setSlot_get ..

@[simp] theorem endSlot_submission (s : State) (n : SlotId) (st : SlotState) (c : Status) (q : Qualifier) :
    (s.endSlot n st c q).submission = s.submission.filter fun m => decide (m ≠ n) := rfl

@[simp] theorem doneSlot_slot (s : State) (n m : SlotId) :
    (s.doneSlot n).slots.get m =
      if n = m then { s.slots.get n with state := .done, status := .none, qualifier := .error } else s.slots.get m :=
  endSlot_slot ..

@[simp] theorem failSlot_slot (s : State) (n m : SlotId) (c : Status) :
    (s.failSlot n c).slots.get m =
      if n = m then { s.slots.get n with state := .failed, status := c, qualifier := .error } else s.slots.get m :=
  endSlot_slot ..

@[simp] theorem writeWord_slot (s : State) (n m : SlotId) (k : Fin 7) (v : Word) :
    (s.writeWord n k v).slots.get m = if n = m then withWord (s.slots.get n) k v else s.slots.get m :=
  State.setSlot_get ..

@[simp] theorem setSlotState_slot (s : State) (n m : SlotId) (st : SlotState) :
    (s.setSlotState n st).slots.get m = if n = m then { s.slots.get n with state := st } else s.slots.get m :=
  State.setSlot_get ..

/-- What the search for the oldest eligible slot finds (R170). -/
theorem firstEligible_some {s : State} {l : List SlotId} {seen : List Target} {n : SlotId} (h : s.firstEligible seen l = some n) :
    n ∈ l ∧ (s.slots.get n).state = .pending := by
  induction l generalizing seen with
  | nil => simp [State.firstEligible] at h
  | cons m ms ih =>
    simp only [State.firstEligible] at h
    split at h <;> split at h
    · cases h; exact ⟨by simp, ‹_›⟩
    · exact ⟨by simp [(ih h).1], (ih h).2⟩
    · cases h; exact ⟨by simp, (‹_ ∧ _›).1⟩
    · exact ⟨by simp [(ih h).1], (ih h).2⟩

theorem nextTake_some {s : State} {n : SlotId} (h : s.nextTake = some n) :
    n ∈ s.submission ∧ (s.slots.get n).state = .pending := firstEligible_some h

/-- A take acts on the slot the next take takes, or leaves the state as it is. -/
theorem takeOf_cases (s : State) (c : Option Command) (body : SlotId → State) :
    (∃ n, s.nextTake = some n ∧ slotCommand (s.slots.get n) = c ∧ s.takeOf c body = body n) ∨ s.takeOf c body = s := by
  unfold State.takeOf
  split
  · split
    · exact .inl ⟨_, ‹_›, ‹_›, rfl⟩
    · exact .inr rfl
  · exact .inr rfl

theorem takeOf_taken {s : State} {c : Option Command} {n : SlotId} (body : SlotId → State) (h : s.nextTake = some n)
    (hc : slotCommand (s.slots.get n) = c) : s.takeOf c body = body n := by
  simp [State.takeOf, h, hc]

/-! ## Drain marks and completions -/

theorem mark_frame (s : State) (n : SlotId) (pw : PostedWrite → Bool) (pr : ReadEntry → Bool) :
    s.mark n pw pr = { s with
      pwq := s.pwq.map fun e => if pw e then { e with marks := addMark n e.marks } else e
      rdt := s.rdt.map fun d => if pr d then { d with marks := addMark n d.marks } else d } := rfl

/-- After a take's marking a slot is borne by the entries in its scope and by those that bore it. -/
theorem mark_bears (s : State) (n : SlotId) (pw : PostedWrite → Bool) (pr : ReadEntry → Bool) :
    (s.mark n pw pr).bears n = (s.bears n || s.pwq.any pw || s.rdt.any pr) := by
  have hp : ∀ l : List PostedWrite,
      (l.map fun e => if pw e then { e with marks := addMark n e.marks } else e).any (fun e => e.marks.get n) =
        (l.any (fun e => e.marks.get n) || l.any pw) := by
    intro l
    induction l with
    | nil => rfl
    | cons e es ih => by_cases h : pw e <;> simp [h, ih, Bool.or_assoc]
  have hr : ∀ l : List ReadEntry,
      (l.map fun d => if pr d then { d with marks := addMark n d.marks } else d).any (fun d => d.marks.get n) =
        (l.any (fun d => d.marks.get n) || l.any pr) := by
    intro l
    induction l with
    | nil => rfl
    | cons e es ih => by_cases h : pr e <;> simp [h, ih, Bool.or_assoc]
  simp only [State.bears, State.mark, hp, hr]
  cases s.pwq.any (fun e => e.marks.get n) <;> cases s.rdt.any (fun d => d.marks.get n) <;> cases s.pwq.any pw <;> rfl

theorem completeRetire_frame (s : State) (n : SlotId) :
    s.completeRetire n = { s with
      apertures := (s.completeRetire n).apertures
      views := (s.completeRetire n).views
      slots := (s.completeRetire n).slots } := by
  unfold State.completeRetire
  split
  · rfl
  · split <;> rfl

theorem completeHalt_frame (s : State) (n : SlotId) :
    s.completeHalt n = { s with requesters := (s.completeHalt n).requesters } := by
  unfold State.completeHalt
  split
  · rfl
  · split <;> rfl

theorem complete_frame (s : State) (n : SlotId) :
    s.complete n = { s with
      apertures := (s.complete n).apertures
      views := (s.complete n).views
      requesters := (s.complete n).requesters
      slots := (s.complete n).slots
      submission := s.submission.filter fun m => decide (m ≠ n) } := by
  unfold State.complete
  split
  · rw [completeRetire_frame]; rfl
  · rw [completeHalt_frame]; rfl
  · rfl

theorem completeRetire_slot_ne (s : State) {n m : SlotId} (h : n ≠ m) : (s.completeRetire n).slots.get m = s.slots.get m := by
  unfold State.completeRetire
  split
  · rfl
  · split
    · simp [h]
    · rfl

/-- A completion writes no slot but its own, which it makes DONE. -/
theorem complete_slot_ne (s : State) {n m : SlotId} (h : n ≠ m) : (s.complete n).slots.get m = s.slots.get m := by
  unfold State.complete
  split
  · simp [h, completeRetire_slot_ne s h]
  · rw [doneSlot_slot, if_neg h, completeHalt_frame]
  · simp [h]

theorem complete_slot_done (s : State) (n : SlotId) : ((s.complete n).slots.get n).state = .done := by
  unfold State.complete
  split <;> simp

theorem countLoss_frame (s : State) (n : SlotId) : s.countLoss n = { s with slots := (s.countLoss n).slots } := by
  unfold State.countLoss
  split <;> rfl

theorem countLoss_slot_ne (s : State) {n m : SlotId} (h : n ≠ m) : (s.countLoss n).slots.get m = s.slots.get m := by
  unfold State.countLoss
  split
  · rfl
  · simp [h]

theorem tell_frame (s : State) (lost : Bool) (n : SlotId) :
    s.tell lost n = { s with
      apertures := (s.tell lost n).apertures
      views := (s.tell lost n).views
      requesters := (s.tell lost n).requesters
      slots := (s.tell lost n).slots
      submission := (s.tell lost n).submission } := by
  unfold State.tell
  split
  · cases lost
    · simp only [Bool.false_eq_true, if_false]
      split
      · rfl
      · rw [complete_frame]
    · simp only [if_true]
      split
      · rw [countLoss_frame]
      · rw [complete_frame, countLoss_frame]
  · rfl

theorem tell_slot_ne (s : State) (lost : Bool) {n m : SlotId} (h : n ≠ m) : (s.tell lost n).slots.get m = s.slots.get m := by
  unfold State.tell
  split
  · cases lost
    · simp only [Bool.false_eq_true, if_false]
      split
      · rfl
      · exact complete_slot_ne s h
    · simp only [if_true]
      split
      · exact countLoss_slot_ne s h
      · rw [complete_slot_ne _ h, countLoss_slot_ne s h]
  · rfl

theorem tellAll_frame (ns : List SlotId) (lost : Bool) (marks : MarkSet) (s : State) :
    s.tellAll lost marks ns = { s with
      apertures := (s.tellAll lost marks ns).apertures
      views := (s.tellAll lost marks ns).views
      requesters := (s.tellAll lost marks ns).requesters
      slots := (s.tellAll lost marks ns).slots
      submission := (s.tellAll lost marks ns).submission } := by
  induction ns generalizing s with
  | nil => rfl
  | cons n ns ih =>
    rw [State.tellAll]
    split
    · rw [ih, tell_frame]
    · exact ih s

theorem tellAll_slot_unmarked (ns : List SlotId) (lost : Bool) (marks : MarkSet) (s : State) {m : SlotId}
    (h : m ∉ ns ∨ marks.get m = false) : (s.tellAll lost marks ns).slots.get m = s.slots.get m := by
  induction ns generalizing s with
  | nil => rfl
  | cons n ns ih =>
    have h' : m ∉ ns ∨ marks.get m = false := h.imp (fun h => by simp at h; exact h.2) id
    rw [State.tellAll]
    split
    · rw [ih _ h', tell_slot_ne]
      rintro rfl
      rcases h with h | h
      · simp at h
      · simp_all
    · exact ih s h'

/-! ## Departures -/

theorem answerRead_frame (s : State) (d : ReadEntry) (o : PortOutcome) :
    s.answerRead d o = { s with
      linkTags := (s.answerRead d o).linkTags
      linkOut := (s.answerRead d o).linkOut
      freeCount := (s.answerRead d o).freeCount } := by
  unfold State.answerRead
  split <;> (split <;> rfl)

theorem departWrite_frame (s : State) (t : PortTagId) (o : PortOutcome) :
    s.departWrite t o = { s with
      apertures := (s.departWrite t o).apertures
      views := (s.departWrite t o).views
      requesters := (s.departWrite t o).requesters
      linkTags := (s.departWrite t o).linkTags
      linkOut := (s.departWrite t o).linkOut
      walks := (s.departWrite t o).walks
      pwq := (s.departWrite t o).pwq
      rdt := (s.departWrite t o).rdt
      slots := (s.departWrite t o).slots
      submission := (s.departWrite t o).submission } := by
  unfold State.departWrite
  split
  · rfl
  · split
    · rw [tellAll_frame]
    · rw [tellAll_frame, capture_frame]

theorem departRead_frame (s : State) (t : PortTagId) (o : PortOutcome) :
    s.departRead t o = { s with
      apertures := (s.departRead t o).apertures
      views := (s.departRead t o).views
      requesters := (s.departRead t o).requesters
      linkTags := (s.departRead t o).linkTags
      linkOut := (s.departRead t o).linkOut
      walks := (s.departRead t o).walks
      rdt := (s.departRead t o).rdt
      slots := (s.departRead t o).slots
      submission := (s.departRead t o).submission
      freeCount := (s.departRead t o).freeCount } := by
  unfold State.departRead
  split
  · rfl
  · dsimp only
    split
    · rw [tellAll_frame, answerRead_frame]
    · rw [tellAll_frame, capture_frame, answerRead_frame]

theorem endPreload_frame (s : State) (n : SlotId) (o : PreloadEnd) :
    s.endPreload n o = { s with
      slots := (s.endPreload n o).slots
      submission := (s.endPreload n o).submission } := by
  unfold State.endPreload
  split
  · split <;> rfl
  · rfl

theorem endPreloadOf_frame (s : State) (w : Walk) (o : PreloadEnd) :
    s.endPreloadOf w o = { s with
      slots := (s.endPreloadOf w o).slots
      submission := (s.endPreloadOf w o).submission } := by
  unfold State.endPreloadOf
  split
  · rfl
  · exact endPreload_frame ..

/-- Whatever each turn keeps, the turns of a walk's waiters together keep. -/
theorem finishWaiters_keeps {t : PortTagId} {finish : Walk → Request → State → State} (P : State → Prop)
    (turn : ∀ (s : State) (w : Walk) (p : Request) (ps : List Request), P s → s.walks.find? (Walk.holdsTag t) = some w →
      w.waiters = p :: ps →
      P (finish w p { s with walks := updateFirst (Walk.holdsTag t) (fun (w : Walk) => { w with waiters := ps }) s.walks }))
    (k : Nat) (s : State) (h : P s) : P (State.finishWaiters t finish k s) := by
  induction k generalizing s with
  | zero => exact h
  | succ k ih =>
    rw [State.finishWaiters]
    split
    · exact h
    · split
      · exact h
      · exact ih _ (turn _ _ _ _ h ‹_› ‹_›)

theorem resumeWaiter_frame (pe : PageEntry) (w : Walk) (p : Request) (s : State) :
    State.resumeWaiter pe w p s = { s with
      requesters := (State.resumeWaiter pe w p s).requesters
      linkTags := (State.resumeWaiter pe w p s).linkTags
      linkOut := (State.resumeWaiter pe w p s).linkOut
      walks := (State.resumeWaiter pe w p s).walks
      pwq := (State.resumeWaiter pe w p s).pwq
      rdt := (State.resumeWaiter pe w p s).rdt
      nextSeq := (State.resumeWaiter pe w p s).nextSeq } := by
  unfold State.resumeWaiter
  split
  · rw [enter_frame]
  · rw [capture_frame]
    rfl

theorem noPageWaiter_frame (w : Walk) (p : Request) (s : State) :
    State.noPageWaiter w p s = { s with
      requesters := (State.noPageWaiter w p s).requesters
      linkTags := (State.noPageWaiter w p s).linkTags
      linkOut := (State.noPageWaiter w p s).linkOut
      walks := (State.noPageWaiter w p s).walks } := by
  unfold State.noPageWaiter
  rw [capture_frame]
  rfl

theorem walkErrorWaiter_frame (q : Qualifier) (w : Walk) (p : Request) (s : State) :
    State.walkErrorWaiter q w p s = { s with
      requesters := (State.walkErrorWaiter q w p s).requesters
      linkTags := (State.walkErrorWaiter q w p s).linkTags
      linkOut := (State.walkErrorWaiter q w p s).linkOut
      walks := (State.walkErrorWaiter q w p s).walks } := by
  unfold State.walkErrorWaiter
  rw [capture_frame]
  rfl

/-! ## Grants -/

/-- What the arbiter can do with a FREE tag (R157). -/
theorem arbitrate_cases (s : State) (t : PortTagId) :
    (∃ w, s.walks.find? Walk.waits = some w ∧ s.arbitrate t = s.issueWalk t w) ∨
    (s.walks.find? Walk.waits = none ∧ ∃ e, s.pwq.find? PostedWrite.isQueued = some e ∧
      (s.arbitrate t = s.issueWrite t e ∧ s.rdt.find? ReadEntry.isReady = none ∨
        s.arbitrate t = { s.issueWrite t e with contest := .rdt } ∧ s.contest = .pwq)) ∨
    (s.walks.find? Walk.waits = none ∧ ∃ d, s.rdt.find? ReadEntry.isReady = some d ∧
      (s.arbitrate t = s.issueRead t d ∧ s.pwq.find? PostedWrite.isQueued = none ∨
        s.arbitrate t = { s.issueRead t d with contest := .pwq } ∧ s.contest = .rdt)) ∨
    s.arbitrate t = s := by
  unfold State.arbitrate
  cases hw : s.walks.find? Walk.waits with
  | some w => exact .inl ⟨w, rfl, rfl⟩
  | none =>
    cases he : s.pwq.find? PostedWrite.isQueued with
    | some e =>
      cases hd : s.rdt.find? ReadEntry.isReady with
      | some d =>
        cases hc : s.contest with
        | pwq => exact .inr (.inl ⟨rfl, e, rfl, .inr ⟨rfl, rfl⟩⟩)
        | rdt => exact .inr (.inr (.inl ⟨rfl, d, rfl, .inr ⟨rfl, rfl⟩⟩))
      | none => exact .inr (.inl ⟨rfl, e, rfl, .inl ⟨rfl, rfl⟩⟩)
    | none =>
      cases hd : s.rdt.find? ReadEntry.isReady with
      | some d => exact .inr (.inr (.inl ⟨rfl, d, rfl, .inl ⟨rfl, rfl⟩⟩))
      | none => exact .inr (.inr (.inr rfl))

/-! ## Resets and the window -/

@[simp] theorem tick_portTag (s : State) (t : PortTagId) : s.tick.portTags.get t = laterTag (s.portTags.get t) := mapTable_get ..

theorem tick_frame (s : State) : s.tick = { s with portTags := s.tick.portTags } := rfl

/-- What a whole word write can change besides a part reset (R166 to R176). -/
theorem hostWriteAt_cases (s : State) (w : WindowWord) (v : Word) :
    s.hostWriteAt w v = s.partReset ∨
    s.hostWriteAt w v = { s with
      responseLimit := (s.hostWriteAt w v).responseLimit
      slots := (s.hostWriteAt w v).slots
      submission := (s.hostWriteAt w v).submission
      submitError := (s.hostWriteAt w v).submitError
      intEnable := (s.hostWriteAt w v).intEnable
      linkEnable := (s.hostWriteAt w v).linkEnable } := by
  cases w with
  | id => exact .inr rfl
  | control =>
    simp only [State.hostWriteAt, State.hostControl]
    split
    · exact .inl rfl
    · exact .inr rfl
  | intStatus => exact .inr rfl
  | intEnable => exact .inr rfl
  | responseLimit => exact .inr rfl
  | slot n k =>
    right
    simp only [State.hostWriteAt, State.hostWord, State.hostWord7, State.startSlot, State.ackSlot]
    split
    · split <;> rfl
    · split
      · rfl
      · split <;> rfl
      · split <;> rfl
      · rfl
  | unlisted => exact .inr rfl

end Sys2Proof.Machine
end

