-- ==== Sys2Proof/Laws/Exec.lean ====
section
/-! SUPPORT. Every command answers a next state and leaves the queue of commands to the step. -/

namespace Sys2Proof.Machine

/-! ## The queue of commands through the shared operations -/

@[simp] theorem release_pending (s : State) (r : RequesterId) (x : LinkReply) : (s.release r x).pending = s.pending := by
  rw [release_frame]

@[simp] theorem orphan_pending (s : State) (p : Walk → Bool) (x : LinkReply) : (s.orphan p x).pending = s.pending := by
  rw [orphan_frame]

@[simp] theorem capture_pending (s : State) (r : RequesterId) (f : FaultRecord) : (s.capture r f).pending = s.pending := by
  rw [capture_frame]

@[simp] theorem enter_pending (s : State) (a : ApIndex) (ord : ReadOrder) (m : MemAddr) (q : Request) :
    (s.enter a ord m q).pending = s.pending := by rw [enter_frame]

@[simp] theorem miss_pending (s : State) (a : ApIndex) (gen : Generation) (page : Nat) (m : MemAddr) (q : Request) :
    (s.miss a gen page m q).pending = s.pending := by rw [miss_frame]

@[simp] theorem mark_pending (s : State) (n : SlotId) (pw : PostedWrite → Bool) (pr : ReadEntry → Bool) :
    (s.mark n pw pr).pending = s.pending := rfl

@[simp] theorem complete_pending (s : State) (n : SlotId) : (s.complete n).pending = s.pending := by rw [complete_frame]

@[simp] theorem waitOrComplete_pending (s : State) (n : SlotId) : (s.waitOrComplete n).pending = s.pending := by
  unfold State.waitOrComplete; split <;> simp

@[simp] theorem departWrite_pending (s : State) (t : PortTagId) (o : PortOutcome) : (s.departWrite t o).pending = s.pending := by
  rw [departWrite_frame]

@[simp] theorem departRead_pending (s : State) (t : PortTagId) (o : PortOutcome) : (s.departRead t o).pending = s.pending := by
  rw [departRead_frame]

@[simp] theorem endPreload_pending (s : State) (n : SlotId) (o : PreloadEnd) : (s.endPreload n o).pending = s.pending := by
  rw [endPreload_frame]

@[simp] theorem endPreloadOf_pending (s : State) (w : Walk) (o : PreloadEnd) : (s.endPreloadOf w o).pending = s.pending := by
  rw [endPreloadOf_frame]

theorem finishWaiters_pending {t : PortTagId} {finish : Walk → Request → State → State}
    (h : ∀ w p s, (finish w p s).pending = s.pending) (k : Nat) (s : State) :
    (State.finishWaiters t finish k s).pending = s.pending :=
  finishWaiters_keeps (fun s' => s'.pending = s.pending) (fun _ _ _ _ hs _ _ => (h ..).trans hs) k s rfl

@[simp] theorem completeWalk_pending (s : State) (t : PortTagId) (w : Walk) (o : PortOutcome) :
    (s.completeWalk t w o).pending = s.pending := by
  have hr : ∀ (pe : PageEntry) w p s, (State.resumeWaiter pe w p s).pending = s.pending := by
    intros; rw [resumeWaiter_frame]
  have hn : ∀ w p s, (State.noPageWaiter w p s).pending = s.pending := by intros; rw [noPageWaiter_frame]
  have he : ∀ (q : Qualifier) w p s, (State.walkErrorWaiter q w p s).pending = s.pending := by
    intros; rw [walkErrorWaiter_frame]
  unfold State.completeWalk
  split
  · dsimp only
    split
    · exact (finishWaiters_pending (hr _) ..).trans (endPreloadOf_pending ..)
    · exact (finishWaiters_pending hn ..).trans (endPreloadOf_pending ..)
  · exact (finishWaiters_pending (he _) ..).trans (endPreloadOf_pending ..)
  · exact (finishWaiters_pending (he _) ..).trans (endPreloadOf_pending ..)

@[simp] theorem departWalk_pending (s : State) (t : PortTagId) (o : PortOutcome) : (s.departWalk t o).pending = s.pending := by
  unfold State.departWalk
  split
  · rfl
  · split
    · rfl
    · simp

@[simp] theorem ownerTakes_pending (s : State) (t : PortTagId) (k : PortKind) (o : PortOutcome) :
    (s.ownerTakes t k o).pending = s.pending := by
  cases k <;> simp [State.ownerTakes]

@[simp] theorem arbitrate_pending (s : State) (t : PortTagId) : (s.arbitrate t).pending = s.pending := by
  obtain ⟨w, -, h⟩ | ⟨-, e, -, h | h⟩ | ⟨-, d, -, h | h⟩ | h := arbitrate_cases s t
  · rw [h]; rfl
  · rw [h.1]; rfl
  · rw [h.1]; rfl
  · rw [h.1]; rfl
  · rw [h.1]; rfl
  · rw [h]

theorem takeOf_pending {s : State} {c : Option Command} {body : SlotId → State} (h : ∀ n, (body n).pending = s.pending) :
    (s.takeOf c body).pending = s.pending := by
  obtain ⟨n, -, -, hb⟩ | hb := takeOf_cases s c body
  · rw [hb, h]
  · rw [hb]

@[simp] theorem hostWrite_pending (s : State) (w : WindowWord) (v : Word) : (s.hostWrite w v).pending = s.pending := by
  unfold State.hostWrite
  split
  · rfl
  · obtain h | h := hostWriteAt_cases s w v
    · rw [h]; rfl
    · rw [h]

@[simp] theorem hostAccess_pending (s : State) (off : Nat) (bytes : List Byte) : (s.hostAccess off bytes).pending = s.pending := by
  unfold State.hostAccess
  split
  · rfl
  · split
    · obtain h | h := hostWriteAt_cases s (windowAt off) (BitVec.ofNat 32 (littleEndian bytes))
      · rw [h]; rfl
      · rw [h]
    · split <;> rfl

/-! ## The commands -/

theorem execArrival_next (q : Request) (s : State) : ∃ t, execArrival q s = .next t ∧ t.pending = s.pending := by
  refine ⟨_, rfl, ?_⟩
  split
  · rfl
  · split
    · simp
    · unfold State.checkArrival
      split
      · split
        · unfold State.checkAdmission
          split
          · simp
          · split
            · simp
            · split
              · unfold State.translate
                split
                · simp
                · dsimp only
                  split
                  · unfold State.hit
                    split <;> simp
                  · simp
              · simp
        · simp
      · simp

theorem takeRequester_pending {s : State} {body : RequesterId → State} (n : SlotId) (h : ∀ r, (body r).pending = s.pending) :
    (s.takeRequester n body).pending = s.pending := by
  unfold State.takeRequester
  split
  · simp
  · exact h _

theorem takeApSet_pending (s : State) (n : SlotId) : (s.takeApSet n).pending = s.pending := by
  unfold State.takeApSet
  dsimp only
  repeat' split
  all_goals simp [State.grantAperture]

theorem takeApRetire_pending (s : State) (n : SlotId) : (s.takeApRetire n).pending = s.pending := by
  unfold State.takeApRetire
  repeat' split
  all_goals simp [State.retire, State.dropEntries]

theorem takeApInvalidate_pending (s : State) (n : SlotId) : (s.takeApInvalidate n).pending = s.pending := by
  unfold State.takeApInvalidate
  dsimp only
  repeat' split
  all_goals simp [State.invalidate, State.dropEntries]

theorem takeTcPreload_pending (s : State) (n : SlotId) : (s.takeTcPreload n).pending = s.pending := by
  unfold State.takeTcPreload State.preloadPresent State.preloadWalk
  dsimp only
  repeat' split
  all_goals simp

theorem enable_pending (s : State) (n : SlotId) (r : RequesterId) : (s.enable n r).pending = s.pending := by
  unfold State.enable
  dsimp only
  split <;> simp

theorem disable_pending (s : State) (n : SlotId) (r : RequesterId) : (s.disable n r).pending = s.pending := by
  unfold State.disable
  dsimp only
  split <;> simp

theorem halt_pending (s : State) (n : SlotId) (r : RequesterId) : (s.halt n r).pending = s.pending := by
  unfold State.halt State.drainRequester
  dsimp only
  split <;> simp

theorem resume_pending (s : State) (n : SlotId) (r : RequesterId) : (s.resume n r).pending = s.pending := by
  unfold State.resume
  dsimp only
  split <;> simp

theorem completeIf_pending (s : State) (n : SlotId) (c : Command) : (s.completeIf n c).pending = s.pending := by
  unfold State.completeIf
  split <;> simp

theorem execAnswer_next (t : PortTagId) (a : Answer) (s : State) : ∃ s', execAnswer t a s = .next s' ∧ s'.pending = s.pending := by
  refine ⟨_, rfl, ?_⟩
  split
  · rfl
  · rfl
  · simp

theorem execExpiry_next (t : PortTagId) (s : State) : ∃ s', execExpiry t s = .next s' ∧ s'.pending = s.pending := by
  refine ⟨_, rfl, ?_⟩
  split
  · split
    · simp
    · rfl
  · rfl
  · rfl

/-- A command never stops the part, and it leaves the queue as it is. -/
theorem exec_next (c : Instr) (s : State) : ∃ t, exec c s = .next t ∧ t.pending = s.pending := by
  cases c with
  | arrival q => exact execArrival_next q s
  | linkReset => exact ⟨_, rfl, rfl⟩
  | partReset cause => cases cause <;> exact ⟨_, rfl, rfl⟩
  | answer t a => exact execAnswer_next t a s
  | expiry t => exact execExpiry_next t s
  | grant t =>
    refine ⟨_, rfl, ?_⟩
    split
    · simp
    · rfl
  | apSet => exact ⟨_, rfl, takeOf_pending fun n => takeApSet_pending s n⟩
  | apRetire => exact ⟨_, rfl, takeOf_pending fun n => takeApRetire_pending s n⟩
  | apInvalidate => exact ⟨_, rfl, takeOf_pending fun n => takeApInvalidate_pending s n⟩
  | queryAperture =>
    refine ⟨_, rfl, takeOf_pending fun n => ?_⟩
    unfold State.takeQueryAperture
    split <;> simp
  | reqEnable => exact ⟨_, rfl, takeOf_pending fun n => takeRequester_pending n (enable_pending s n)⟩
  | reqDisable => exact ⟨_, rfl, takeOf_pending fun n => takeRequester_pending n (disable_pending s n)⟩
  | reqHalt => exact ⟨_, rfl, takeOf_pending fun n => takeRequester_pending n (halt_pending s n)⟩
  | reqResume => exact ⟨_, rfl, takeOf_pending fun n => takeRequester_pending n (resume_pending s n)⟩
  | faultClear => exact ⟨_, rfl, takeOf_pending fun n => takeRequester_pending n fun r => by simp [State.clearFault]⟩
  | queryRequester => exact ⟨_, rfl, takeOf_pending fun n => takeRequester_pending n fun r => by simp [State.queryRequester]⟩
  | tcPreload => exact ⟨_, rfl, takeOf_pending fun n => takeTcPreload_pending s n⟩
  | tcUnpin =>
    refine ⟨_, rfl, takeOf_pending fun n => ?_⟩
    unfold State.takeTcUnpin
    dsimp only
    repeat' split
    all_goals simp
  | queryTc =>
    refine ⟨_, rfl, takeOf_pending fun n => ?_⟩
    unfold State.takeQueryTc
    dsimp only
    split <;> simp
  | flush => exact ⟨_, rfl, takeOf_pending fun n => by simp [State.takeFlush]⟩
  | badOp => exact ⟨_, rfl, takeOf_pending fun n => by simp⟩
  | apRetireCompletion n => exact ⟨_, rfl, completeIf_pending s n _⟩
  | apInvalidateCompletion n => exact ⟨_, rfl, completeIf_pending s n _⟩
  | flushCompletion n => exact ⟨_, rfl, completeIf_pending s n _⟩
  | reqHaltCompletion n => exact ⟨_, rfl, completeIf_pending s n _⟩
  | tcPreloadCompletion n o =>
    refine ⟨_, rfl, ?_⟩
    split
    · simp
    · rfl
  | start n v => exact ⟨_, rfl, by simp⟩
  | ack n v => exact ⟨_, rfl, by simp⟩
  | slotWordWrite n k v => exact ⟨_, rfl, by simp⟩
  | linkEnable v => exact ⟨_, rfl, by simp⟩
  | softReset v => exact ⟨_, rfl, by simp⟩
  | intStatusWrite v => exact ⟨_, rfl, by simp⟩
  | intEnableWrite v => exact ⟨_, rfl, by simp⟩
  | responseLimitWrite v => exact ⟨_, rfl, by simp⟩
  | registerWrite off bytes => exact ⟨_, rfl, by simp⟩
  | resetNRelease => exact ⟨_, rfl, rfl⟩
  | word7Action3 n v => exact ⟨_, rfl, by simp⟩

/-- The one inversion of a step: the front command ran on the rest of the queue, or the queue was empty and time passed. -/
theorem step_cases {s s' : State} (h : step s = .next s') :
    (∃ c rest, s.pending = c :: rest ∧ exec c { s with pending := rest } = .next s') ∨ (s.pending = [] ∧ s' = s.tick) := by
  unfold step at h
  split at h
  · exact .inr ⟨‹_›, by cases h; rfl⟩
  · exact .inl ⟨_, _, ‹_›, h⟩

/-- What every command keeps, every step keeps. -/
theorem keptByStep_of_exec {law : State → Prop} (queue : ∀ s rest, law s → law { s with pending := rest })
    (time : ∀ s, law s → law s.tick) (command : ∀ c s s', law s → exec c s = .next s' → law s') :
    ∀ s s' : State, law s → step s = .next s' → law s' := by
  intro s s' hs h
  obtain ⟨c, rest, -, h⟩ | ⟨-, rfl⟩ := step_cases h
  · exact command c _ s' (queue s rest hs) h
  · exact time s hs

end Sys2Proof.Machine
end

