-- ==== Sys2Proof/Laws/HostMemory.lean ====
section
/-! SUPPORT. The small lemmas of host memory's terms: the last request under a tag, and one byte through a history. -/

namespace Sys2Proof.Machine

/-- A new message is the last one under its own tag and under no other. -/
theorem lastUnder_append (t : PortTagId) (l : List PortMessage) (m : PortMessage) :
    lastUnder t (l ++ [m]) = if messageTag m = some t then some l.length else lastUnder t l := by
  induction l with
  | nil => simp [lastUnder]
  | cons x xs ih =>
    rw [List.cons_append, lastUnder, ih]
    by_cases h : messageTag m = some t
    · simp [h]
    · simp only [h, if_false, lastUnder]

/-- The last request under a tag goes out under that tag. -/
theorem lastUnder_tag {t : PortTagId} {l : List PortMessage} {k : Nat} (h : lastUnder t l = some k) :
    ∃ m, l[k]? = some m ∧ messageTag m = some t := by
  induction l generalizing k with
  | nil => simp [lastUnder] at h
  | cons x xs ih =>
    rw [lastUnder] at h
    split at h
    · obtain rfl := Option.some.inj h
      exact ih ‹_›
    · split at h
      · obtain rfl := Option.some.inj h
        exact ⟨x, rfl, ‹_›⟩
      · simp at h

@[simp] theorem byteAfter_nil (issued : List PortMessage) (x : MemAddr) (v : Byte) : byteAfter issued x v [] = v := rfl

@[simp] theorem byteAfter_append (issued : List PortMessage) (x : MemAddr) (v : Byte) (h₁ h₂ : List HostEvent) :
    byteAfter issued x v (h₁ ++ h₂) = byteAfter issued x (byteAfter issued x v h₁) h₂ := List.foldl_append ..

/-- A byte that no event of a history changes keeps its value. -/
theorem byteAfter_of_untouched {issued : List PortMessage} {x : MemAddr} {h : List HostEvent}
    (untouched : ∀ e ∈ h, ∀ v, byteAfterEvent issued x v e = v) (v : Byte) : byteAfter issued x v h = v := by
  induction h generalizing v with
  | nil => rfl
  | cons e h ih =>
    have hv := untouched e (by simp) v
    rw [byteAfter, List.foldl_cons, hv]
    exact ih (fun e' he' => untouched e' (by simp [he'])) v

/-- A byte that a performed write enables holds the write's value until a later event changes it (R110, R114). -/
theorem byteAfter_of_write {issued : List PortMessage} {x : MemAddr} {h₁ h₂ : List HostEvent} {k : Nat} {bytes : BitVec 64}
    {t : PortTagId} {a : MemAddr} {n : Nat} {enables : BitVec 64} {data : List Byte} (v : Byte)
    (hk : issued[k]? = some (.write t a n enables data)) (low : a.toNat ≤ x.toNat) (high : x.toNat < a.toNat + n)
    (enabled : bytes.getLsbD (x.toNat % 64) = true) (hd : data.length = n)
    (untouched : ∀ e ∈ h₂, ∀ v, byteAfterEvent issued x v e = v) :
    data[x.toNat - a.toNat]? = some (byteAfter issued x v (h₁ ++ .performs k bytes :: h₂)) := by
  have hx : x.toNat - a.toNat < data.length := by omega
  rw [byteAfter_append, ← List.singleton_append, byteAfter_append, byteAfter_of_untouched untouched]
  simp [byteAfter, byteAfterEvent, hk, low, high, enabled, hx]

/-- `bytesAfter` gives as many bytes as were asked for. -/
@[simp] theorem bytesAfter_length (issued : List PortMessage) (start : MemAddr → Byte) (h : List HostEvent) (a : MemAddr) (n : Nat) :
    (bytesAfter issued start h a n).length = n := by simp [bytesAfter]

end Sys2Proof.Machine
end

