-- ==== Sys2Proof/Tests/Slice0.lean ====
section
/-! SUPPORT. The writer's own tests: the smoke test of WellFormed, one-step tests on small states with the outcomes of the
manual's examples and layout tables, and for every statement with hypotheses a named witness that meets them. -/

namespace Sys2Proof.Machine.Tests

set_option maxRecDepth 20000

/-! ## WellFormed refuses an ill-formed term at each check -/

theorem test_wellFormed_write_data :
    (Instr.arrival ⟨3, 0, .write 0 [1, 2], 0x1000, 2⟩).wellFormed = true ∧
    (Instr.arrival ⟨3, 0, .write 0 [1, 2, 3], 0x1000, 2⟩).wellFormed = false := by decide

theorem test_wellFormed_answer :
    (Instr.answer 0 (.ok (List.replicate 64 0))).wellFormed = true ∧
    (Instr.answer 0 (.ok (List.replicate 65 0))).wellFormed = false := by decide

theorem test_wellFormed_word7 :
    (Instr.start 0 0x01000000).wellFormed = true ∧ (Instr.start 0 0x02000000).wellFormed = false ∧
    (Instr.ack 0 0x02000000).wellFormed = true ∧ (Instr.ack 0 0x01000000).wellFormed = false ∧
    (Instr.word7Action3 0 0x03000000).wellFormed = true ∧ (Instr.word7Action3 0 0).wellFormed = false := by decide

theorem test_wellFormed_control :
    (Instr.linkEnable 1).wellFormed = true ∧ (Instr.linkEnable 3).wellFormed = false ∧
    (Instr.softReset 3).wellFormed = true ∧ (Instr.softReset 1).wellFormed = false := by decide

theorem test_wellFormed_access :
    (Instr.registerWrite 0xFFC [1, 2, 3, 4]).wellFormed = true ∧ (Instr.registerWrite 0xFFD [1, 2, 3, 4]).wellFormed = false ∧
    (Instr.registerWrite 0x100 []).wellFormed = false := by decide

/-! ## Small states -/

/-- What the next state of a result is like; false of a fault or a refusal. -/
def after (r : Result) (p : State → Bool) : Bool :=
  match r with
  | .next t => p t
  | .fault _ => false
  | .refused _ => false

/-- Aperture 5 of the example of spec/01. -/
def grant5 : Grant where
  owner := 3
  linkBase := 0x00100000
  pages := 16
  base := .direct 0x1234500000
  access := .readWrite
  ordering := .strict

/-- Aperture 9 of the example of spec/01. -/
def grant9 : Grant where
  owner := 3
  linkBase := 0x00200000
  pages := 4
  base := .mapped 0x0008001000
  access := .read
  ordering := .line

/-- The state of the example of spec/01 after its event 2, requester 3 ENABLED and the link enabled. -/
def live : State := { State.reset with
  linkEnable := true
  apertures := (State.reset.apertures.set 5 { generation := 0, life := .live grant5 }).set 9 { generation := 0, life := .live grant9 }
  views := State.reset.views.set 3 [5, 9]
  requesters := State.reset.requesters.set 3 { state := .enabled, stopOnFault := false, firstFault := none, faultCount := 0 } }

/-- A READ of requester 3. -/
def rd (t : LinkTag) (addr : LinkAddr) (length : BitVec 7) : Request := ⟨3, t, .read, addr, length⟩

/-- A WRITE of requester 3 with every byte enable set. -/
def wr (t : LinkTag) (addr : LinkAddr) (length : BitVec 7) : Request :=
  ⟨3, t, .write (BitVec.allOnes 64) (List.replicate length.toNat 0xAA), addr, length⟩

/-- Requester 3 in a state. -/
def asks (s : State) (st : RequesterState) (stop : Bool) : State :=
  s.setRequester 3 { state := st, stopOnFault := stop, firstFault := none, faultCount := 0 }

/-- Slot 0 PENDING with some words, alone on the submission list. -/
def submit (s : State) (words : Vector Word 7) : State := { s with
  slots := s.slots.set 0 { state := .pending, words := words, status := .none, qualifier := .error }
  submission := [0] }

/-- Words of a slot from an operation code, an index and words 1 to 4. -/
def cmd (op index : Nat) (w1 w2 w3 w4 : Word) : Vector Word 7 := #v[BitVec.ofNat 32 (op + 256 * index), w1, w2, w3, w4, 0, 0]

/-- Word 0 of AP_SET. -/
def apSet (index owner mode access ordering : Nat) : Word :=
  BitVec.ofNat 32 (1 + 256 * index + 65536 * owner + 2097152 * mode + 8388608 * access + 33554432 * ordering)

/-- A cache entry of aperture 9, generation 0. -/
def entry9 (page : Nat) (frame : Frame) (pinned : Bool) : TcEntry where
  aperture := 9
  generation := 0
  page := page
  frame := frame
  readable := true
  writable := false
  pinned := pinned

/-- A walk of aperture 9, generation 0. -/
def walk9 (page : Nat) (st : WalkState) (waiters : List Request) : Walk where
  aperture := 9
  generation := 0
  page := page
  entryAddr := 0x0008001000 + BitVec.ofNat 40 (8 * page)
  state := st
  orphaned := false
  waiters := waiters
  preload := none

/-- A posted write of requester 3 through aperture 5 at offset 0x2A40. -/
def write5 (seq : Nat) (st : WriteState) (marks : MarkSet) : PostedWrite where
  seq := seq
  requester := 3
  aperture := 5
  linkAddr := 0x00102A40
  length := 64
  memAddr := 0x1234502A40
  enables := BitVec.allOnes 64
  data := List.replicate 64 0xAA
  state := st
  marks := marks

/-- A read of requester 3 through aperture 5 at offset 0xFFC0. -/
def read5 (seq : Nat) (t : LinkTag) (st : ReadState) (hold : List Nat) (marks : MarkSet) : ReadEntry where
  seq := seq
  requester := 3
  tag := t
  aperture := 5
  ordering := .strict
  linkAddr := 0x0010FFC0
  memAddr := 0x123450FFC0
  length := 64
  state := st
  discard := false
  marks := marks
  holding := hold

/-- The 8 bytes of a page map entry: frame 0x00ABCDE with some indications (layout table of spec/10). -/
def entryBytes (flags : Byte) : List Byte := [flags, 0xE0, 0xCD, 0xAB, 0x00, 0, 0, 0]

theorem grant5_fits : grantFits grant5 := ⟨by decide, by decide, by decide, by decide, by decide, by decide⟩

theorem grant9_fits : grantFits grant9 := ⟨by decide, by decide, by decide, by decide, by decide, by decide⟩

/-- The aperture law of a state that holds no grants but these two. -/
theorem apertureLaw_of {s : State}
    (member : ∀ (r : RequesterId) (i : ApIndex), i ∈ s.views.get r ↔ (grantOf (s.apertures.get i)).map Grant.owner = some r)
    (order : ∀ r : RequesterId, (s.views.get r).Pairwise fun i j => s.viewEnd i ≤ s.viewBase j)
    (grants : ∀ i : ApIndex, grantOf (s.apertures.get i) ∈ [none, some grant5, some grant9]) : ApertureLaw s := by
  refine ⟨member, order, fun i g h => ?_⟩
  have hg := grants i
  rw [h] at hg
  simp only [List.mem_cons, Option.some.injEq, List.not_mem_nil, or_false, reduceCtorEq, false_or] at hg
  obtain rfl | rfl := hg
  · exact grant5_fits
  · exact grant9_fits

theorem live_apertureLaw : ApertureLaw live := apertureLaw_of (by decide) (by decide) (by decide)

/-! ## Time, resets, the step -/

theorem witness_step : ({ live with pending := [.linkReset, .flush] } : State).pending = .linkReset :: [.flush] := rfl

/-- An empty queue, a BUSY tag one microsecond short of the limit, and a tag of each other kind (R160). -/
theorem witness_time :
    let s : State := { live with portTags := (live.portTags.set 0 (.busy .read 999)).set 7 .quarantined }
    s.pending = [] ∧ s.portTags.get 0 = .busy .read 999 ∧ tagKind (s.portTags.get 7) = none ∧ tagKind (s.portTags.get 1) = none ∧
    after (step s) (fun t => decide (t.portTags.get 0 = .busy .read 1000 ∧ t.portTags.get 7 = .quarantined)) = true := by decide

theorem witness_partReset : live.resetLow = false ∧ (2#32).getLsbD 1 = true ∧ (3#32).getLsbD 1 = true := by decide

/-- The pin held low: an arrival is dropped in silence, and a release ends that (R66, R176). -/
theorem witness_lowPin :
    ({ State.reset with resetLow := true } : State).resetLow = true ∧
    after (exec (.partReset .resetNLow) live) (fun t => decide (t.resetLow = true ∧ t.views.get 3 = [] ∧ t.linkEnable = false)) ∧
    after (exec .resetNRelease { State.reset with resetLow := true }) (fun t => !t.resetLow) := by decide

theorem test_softReset : after (exec (.softReset 3) live) (fun t => decide (t.linkEnable = false ∧ t.portOut = [.resetSignal])) := by
  decide

/-! ## ARRIVAL and LINK_RESET -/

/-- The requests of the example of spec/01 after its event 4, as far as `live` holds their apertures. -/
theorem test_arrival_direct :
    after (exec (.arrival (wr 0 0x00102A40 64)) live)
      (fun t => decide (t.pwq.map PostedWrite.memAddr = [0x1234502A40] ∧ t.linkOut = [⟨3, 0, .accept⟩])) ∧
    after (exec (.arrival (rd 1 0x0010FFC0 64)) live)
      (fun t => decide (t.rdt.map ReadEntry.memAddr = [0x123450FFC0] ∧ t.linkTag 3 1 = .busy ∧ t.linkOut = [])) := by decide

theorem test_arrival_mapped :
    after (exec (.arrival (rd 0 0x00203010 16)) live)
      (fun t => decide (t.walks.map Walk.entryAddr = [0x0008001018] ∧ t.parkedCount = 1)) ∧
    after (exec (.arrival (wr 0 0x00200000 4)) live)
      (fun t => decide (t.walks = [] ∧ t.linkOut = [⟨3, 0, .abort .permission⟩])) := by decide

/-- Each check of R51 refusing at a boundary of its range: a tag already BUSY; length 0, 65 and a range one byte past its line;
LINK_ENABLE clear; each requester state; one byte past a range; the access. Lengths 1 and 64 pass. -/
theorem witness_arrivalChecks :
    live.resetLow = false ∧ (live.setLinkTag 3 0 .busy).resetLow = false ∧
    (live.setLinkTag 3 0 .busy).linkTag 3 0 = .busy ∧
    [wr 0 0x00100000 0, wr 0 0x00100000 65, wr 0 0x00100001 64].all (fun q => after (exec (.arrival q) live) fun t =>
      decide (t.linkOut = [⟨3, 0, .abort .protocol⟩] ∧ (t.requesters.get 3).faultCount = 1)) = true ∧
    [wr 0 0x00100000 64, wr 0 0x0010003F 1].all (fun q => after (exec (.arrival q) live) fun t =>
      decide (t.linkOut = [⟨3, 0, .accept⟩])) = true ∧
    after (exec (.arrival (wr 0 0x00100000 64)) { live with linkEnable := false })
      (fun t => decide (t.linkOut = [⟨3, 0, .retry .notReady⟩])) = true ∧
    [(RequesterState.disabled, LinkReply.abort .denied), (.halting, .retry .halted), (.halted, .retry .halted),
        (.stopped, .abort .stopped)].all (fun p => after (exec (.arrival (wr 0 0x00100000 64)) (asks live p.1 false)) fun t =>
      decide (t.linkOut = [⟨3, 0, p.2⟩] ∧ t.requesters = (asks live p.1 false).requesters)) = true ∧
    after (exec (.arrival (rd 0 0x00204000 4)) live) (fun t => decide (t.linkOut = [⟨3, 0, .abort .noAperture⟩])) = true ∧
    after (exec (.arrival (rd 0 0x00110000 8)) live) (fun t => decide (t.linkOut = [⟨3, 0, .abort .noAperture⟩])) = true := by
  decide

/-- A duplicate tag on a requester that the capture stops and on one that it does not. -/
theorem witness_duplicateTag :
    (live.setLinkTag 3 0 .busy).resetLow = false ∧ (live.setLinkTag 3 0 .busy).linkTag (rd 0 0x00100000 4).requester 0 = .busy ∧
    ¬((live.setLinkTag 3 0 .busy).requesters.get 3).stops ∧
    (((asks live .enabled true).setLinkTag 3 0 .busy).requesters.get 3).stops := by decide

/-- Lookup at the first and last address of a range, one past it, and one before it. -/
theorem witness_lookup :
    ApertureLaw live ∧ live.lookup 3 0x00100000 = some (5, grant5) ∧ live.lookup 3 0x0010FFFF = some (5, grant5) ∧
    live.lookup 3 0x00110000 = none ∧ live.lookup 3 0x000FFFFF = none ∧ live.lookup 4 0x00100000 = none :=
  ⟨live_apertureLaw, by decide, by decide, by decide, by decide, by decide⟩

/-- `live` with the cache holding pages 0 and 3 of aperture 9. -/
def cached : State := { live with tc := [entry9 0 0x0000200 false, entry9 3 0x00ABCDE true] }

theorem cached_apertureLaw : ApertureLaw cached := apertureLaw_of (by decide) (by decide) (by decide)

theorem cached_hit : cached.hits (rd 0 0x00203010 16) 9 grant9 [entry9 0 0x0000200 false] (entry9 3 0x00ABCDE true) [] :=
  ⟨rfl, by decide, by decide⟩

theorem live_passes_write : live.passes (wr 0 0x00102A40 64) 5 grant5 :=
  ⟨by decide, by decide, by decide, by decide, by decide, by decide, by decide⟩

theorem live_passes_read : live.passes (rd 0 0x0010FFC0 64) 5 grant5 :=
  ⟨by decide, by decide, by decide, by decide, by decide, by decide, by decide⟩

theorem live_passes_mapped : live.passes (rd 0 0x00203010 16) 9 grant9 :=
  ⟨by decide, by decide, by decide, by decide, by decide, by decide, by decide⟩

/-- A WRITE through the DIRECT aperture with 7 and with 8 entries in the queue. -/
theorem witness_translatedWrite :
    (∀ k ∈ [7, 8], ∀ s, s = { live with pwq := List.replicate k (write5 0 .queued MarkSet.empty) } →
      ApertureLaw s ∧ s.passes (wr 0 0x00102A40 64) 5 grant5 ∧ direction (wr 0 0x00102A40 64) = .write ∧
      s.translates (wr 0 0x00102A40 64) 5 grant5 0x1234502A40 s.tc ∧ s.pwq.length = k) := by
  intro k hk s hs
  subst hs
  have hA : ApertureLaw { live with pwq := List.replicate k (write5 0 .queued MarkSet.empty) } := live_apertureLaw
  exact ⟨hA, live_passes_write, by decide, ⟨by decide, rfl⟩, by simp⟩

/-- A READ through the DIRECT aperture with 7 and with 8 entries in the tracker, and one through the MAPPED aperture that hits. -/
theorem witness_translatedRead :
    (∀ k ∈ [7, 8], ∀ s, s = { live with rdt := List.replicate k (read5 0 1 .ready [] MarkSet.empty) } →
      ApertureLaw s ∧ s.passes (rd 0 0x0010FFC0 64) 5 grant5 ∧ direction (rd 0 0x0010FFC0 64) = .read ∧
      s.translates (rd 0 0x0010FFC0 64) 5 grant5 0x123450FFC0 s.tc ∧ s.rdt.length = k) ∧
    (ApertureLaw cached ∧ cached.passes (rd 0 0x00203010 16) 9 grant9 ∧
      cached.translates (rd 0 0x00203010 16) 9 grant9 0x00ABCDE010 [entry9 3 0x00ABCDE true, entry9 0 0x0000200 false]) := by
  refine ⟨fun k hk s hs => ?_, cached_apertureLaw, ?_, _, _, _, cached_hit, rfl, by decide, by decide⟩
  · subst hs
    have hA : ApertureLaw { live with rdt := List.replicate k (read5 0 1 .ready [] MarkSet.empty) } := live_apertureLaw
    exact ⟨hA, live_passes_read, by decide, ⟨by decide, rfl⟩, by simp⟩
  · exact live_passes_mapped

/-- The MAPPED requests that no entry serves: a hit on a page that is not readable; a miss with a walk to join, 7 and 8 parked; a
miss with none to join, 3 and 4 walks. -/
theorem witness_mapped :
    (∀ s : State, s = { live with tc := [{ entry9 3 0x00ABCDE false with readable := false }] } →
      s.passes (rd 0 0x00203010 16) 9 grant9 ∧
      s.hits (rd 0 0x00203010 16) 9 grant9 [] { entry9 3 0x00ABCDE false with readable := false } []) ∧
    (∀ k ∈ [7, 8], ∀ s, s = { live with walks := [walk9 3 .waitingTag (List.replicate k (rd 1 0x00203000 4))] } →
      s.passes (rd 0 0x00203010 16) 9 grant9 ∧ s.parkedCount = k ∧ s.tc = [] ∧
      FirstOf (Walk.isFor 9 0 3) s.walks [] (walk9 3 .waitingTag (List.replicate k (rd 1 0x00203000 4))) []) ∧
    (∀ k ∈ [3, 4], ∀ s, s = { live with walks := List.replicate k (walk9 0 .waitingTag []) } →
      s.passes (rd 0 0x00203010 16) 9 grant9 ∧ s.walks.length = k ∧ ∀ w ∈ s.walks, Walk.isFor 9 0 3 w = false) := by
  refine ⟨fun s hs => hs ▸ ⟨live_passes_mapped, rfl, by decide, by decide⟩,
    fun k hk s hs => ?_, fun k hk s hs => ?_⟩
  · subst hs
    exact ⟨live_passes_mapped, by simp [State.parkedCount, walk9], rfl, rfl, by simp, by simp [Walk.isFor, walk9]⟩
  · subst hs
    refine ⟨live_passes_mapped, by simp, ?_⟩
    intro w hw
    obtain ⟨-, rfl⟩ := List.mem_replicate.1 hw
    decide

/-- With no tag BUSY and nothing parked the link tag law holds of `live`. -/
theorem witness_linkReset :
    LinkTagLaw live ∧ (∀ (r : RequesterId) (g : LinkTag), live.linkTag r g = .free) ∧
    after (exec .linkReset (live.setLinkTag 3 2 .busy)) (fun t => decide (t.linkTag 3 2 = .free ∧ t.linkOut = [])) = true :=
  ⟨by unfold LinkTagLaw; decide, by decide, by decide⟩

/-! ## The requester commands -/

/-- `s` takes its command next, on requester 3. -/
def TakesOn3 (s : State) (c : Command) : Prop := s.takes 0 (some c) ∧ slotRequester (s.slots.get 0) = some 3

/-- In every state of the requester each of its commands can be taken (a `cmd` of 16 or more is a requester command's code). -/
theorem witness_requesterCommands :
    ∀ st ∈ [RequesterState.disabled, .enabled, .halting, .halted, .stopped], ∀ p ∈ [(16, Command.reqEnable), (17, .reqDisable),
        (19, .reqResume), (20, .faultClear)],
      (submit (asks live st true) (cmd p.1 3 0 0 0 0)).nextTake = some 0 ∧
      slotCommand ((submit (asks live st true) (cmd p.1 3 0 0 0 0)).slots.get 0) = some p.2 ∧
      slotRequester ((submit (asks live st true) (cmd p.1 3 0 0 0 0)).slots.get 0) = some 3 ∧
      ((submit (asks live st true) (cmd p.1 3 0 0 0 0)).requesters.get 3).state = st := by decide

/-- REQ_HALT from every state, with nothing to mark and with a posted write to mark. -/
theorem witness_reqHalt :
    ∀ st ∈ [RequesterState.disabled, .enabled, .halting, .halted, .stopped], ∀ l ∈ [[], [write5 0 .queued MarkSet.empty]],
      ∀ s ∈ [{ submit (asks live st false) (cmd 18 3 0 0 0 0) with pwq := l }],
      DrainLaw s ∧ TakesOn3 s .reqHalt ∧ (s.requesters.get 3).state = st ∧ s.pwq = l := by
  unfold DrainLaw TakesOn3 State.takes
  decide

/-- QUERY_REQUESTER with no fault held, and with the fault of the example of spec/02. -/
theorem witness_queryRequester :
    ∀ p ∈ [(none, 0), (some (FaultRecord.permission .write 0x50000100 31), 2)],
      ∀ s ∈ [(submit live (cmd 21 3 0 0 0 0)).setRequester 3
        { state := .stopped, stopOnFault := true, firstFault := p.1, faultCount := p.2 }],
      FaultCountLaw s ∧ TakesOn3 s .queryRequester ∧ (s.requesters.get 3).firstFault = p.1 := by
  unfold FaultCountLaw TakesOn3 State.takes
  decide

/-- The report of event 9 of the example of spec/02: STOPPED, stop-on-fault yes, count 2, PERMISSION, WRITE, aperture 31. -/
theorem test_queryRequester :
    after (exec .queryRequester ((submit live (cmd 21 3 0 0 0 0)).setRequester 3
      { state := .stopped, stopOnFault := true, firstFault := some (.permission .write 0x50000100 31), faultCount := 2 }))
      (fun t => decide ((t.slots.get 0).words.get 1 = 0x3E930214 ∧ (t.slots.get 0).words.get 2 = 0x50000100)) = true := by decide

theorem test_reqEnable :
    after (exec .reqEnable (submit (asks live .disabled false) #v[0x08000310, 0, 0, 0, 0, 0, 0]))
      (fun t => decide ((t.requesters.get 3).state = .enabled ∧ (t.requesters.get 3).stopOnFault = true ∧
        (t.slots.get 0).state = .done)) ∧
    after (exec .reqEnable (submit (asks live .halted false) (cmd 16 3 0 0 0 0)))
      (fun t => decide ((t.requesters.get 3).state = .halted ∧ (t.slots.get 0).status = .state)) = true := by decide

/-- A parked transaction of a requester that is disabled, and of one that is halted (R31). -/
theorem test_release :
    after (exec .reqDisable { submit live (cmd 17 3 0 0 0 0) with walks := [walk9 3 .waitingTag [rd 1 0x00203000 4]] })
      (fun t => decide (t.linkOut = [⟨3, 1, .abort .denied⟩] ∧ t.parkedCount = 0 ∧ t.walks.length = 1)) ∧
    after (exec .reqHalt { submit live (cmd 18 3 0 0 0 0) with walks := [walk9 3 .waitingTag [rd 1 0x00203000 4]] })
      (fun t => decide (t.linkOut = [⟨3, 1, .retry .halted⟩] ∧ (t.requesters.get 3).state = .halted)) = true := by decide

theorem test_faultClear :
    after (exec .faultClear ((submit live (cmd 20 3 0 0 0 0)).setRequester 3
      { state := .stopped, stopOnFault := true, firstFault := some (.noAperture .read 0x00204000), faultCount := 1 }))
      (fun t => decide ((t.requesters.get 3).state = .enabled ∧ (t.requesters.get 3).faultCount = 0) && !faultPending t) = true := by
  decide

/-! ## The aperture commands -/

/-- The grant of event 4 of the example of spec/01. -/
def grant12 : Grant where
  owner := 3
  linkBase := 0x00110000
  pages := 240
  base := .direct 0x0040000000
  access := .readWrite
  ordering := .line

/-- AP_SET 12 of event 4 of that example, in slot 0. -/
def set12 : State := submit live #v[apSet 12 3 1 3 2, 0x00110000, 240, 0x40000000, 0, 0, 0]

theorem set12_apertureLaw : ApertureLaw set12 := live_apertureLaw

theorem grant12_fits : grantFits grant12 := ⟨by decide, by decide, by decide, by decide, by decide, by decide⟩

theorem witness_apSet : ApertureLaw set12 ∧ set12.takes 0 (some .apSet) ∧ slotAperture (set12.slots.get 0) = some 12 ∧
    (set12.apertures.get 12).life = .free ∧ describes (set12.slots.get 0) grant12 ∧ grantFits grant12 ∧
    ¬set12.overlapped grant12 := by
  refine ⟨set12_apertureLaw, ⟨by decide, by decide⟩, by decide, by decide,
    ⟨by decide, by decide, by decide, by decide, by decide, by decide, by decide⟩, grant12_fits, ?_⟩
  rintro ⟨i, hi, h, hh, x, hx, hx'⟩
  have hv : set12.views.get 3 = [5, 9] := by decide
  have hi' : i ∈ set12.views.get 3 := hi
  rw [hv] at hi'
  have h5 : grantOf (set12.apertures.get 5) = some grant5 := by decide
  have h9 : grantOf (set12.apertures.get 9) = some grant9 := by decide
  simp only [List.mem_cons, List.not_mem_nil, or_false] at hi'
  obtain rfl | rfl := hi'
  · rw [h5, Option.some.injEq] at hh
    subst hh
    simp [inRange, rangeEnd, grant5, grant12] at hx hx'
    omega
  · rw [h9, Option.some.injEq] at hh
    subst hh
    simp [inRange, rangeEnd, grant9, grant12] at hx hx'
    omega

/-- AP_SET 12 of the example of spec/01, and the view it leaves. -/
theorem test_apSet :
    after (exec .apSet set12) (fun t => decide (t.views.get 3 = [5, 12, 9] ∧ (t.slots.get 0).state = .done ∧
      (t.slots.get 0).words.get 5 = 0)) = true := by decide

/-- Each check of AP_SET refusing: index 64, owner 16, LIVE, RETIRING, a misaligned link base, DIRECT base and MAPPED base, 0 pages
and 65,537 pages, mode 3, access 0, ordering 0, and the overlap of event 3 of the example of spec/01. -/
theorem witness_apSetRefuses :
    [(submit live #v[apSet 64 3 1 3 2, 0x00110000, 1, 0, 0, 0, 0], Status.badIndex),
      (submit live #v[apSet 12 16 1 3 2, 0x00110000, 1, 0, 0, 0, 0], .badIndex),
      (submit live #v[apSet 5 3 1 3 2, 0x00110000, 1, 0, 0, 0, 0], .notFree),
      ((submit live #v[apSet 5 3 1 3 2, 0x00110000, 1, 0, 0, 0, 0]).setAperture 5 { generation := 0, life := .retiring grant5 }, .busy),
      (submit live #v[apSet 12 3 3 3 2, 0x00110FFF, 1, 0, 0, 0, 0], .align),
      (submit live #v[apSet 12 3 1 3 2, 0x00110000, 1, 8, 0, 0, 0], .align),
      (submit live #v[apSet 12 3 2 3 2, 0x00110000, 1, 4, 0, 0, 0], .align),
      (submit live #v[apSet 12 3 1 3 2, 0x00110000, 0, 0, 0, 0, 0], .range),
      (submit live #v[apSet 12 3 1 3 2, 0x00110000, 65537, 0, 0, 0, 0], .range),
      (submit live #v[apSet 12 3 3 3 2, 0x00110000, 1, 4, 0, 0, 0], .range),
      (submit live #v[apSet 12 3 1 0 2, 0x00110000, 1, 0, 0, 0, 0], .range),
      (submit live #v[apSet 12 3 1 3 0, 0x00110000, 1, 0, 0, 0, 0], .range),
      (submit live #v[apSet 12 3 1 3 2, 0x0010F000, 2, 0x40000000, 0, 0, 0], .overlap)].all
      (fun p => after (exec .apSet p.1) fun t =>
        decide (p.1.nextTake = some 0 ∧ (t.slots.get 0).status = p.2 ∧ t.apertures = p.1.apertures)) = true := by decide

/-- QUERY_APERTURE of a LIVE and of a FREE record. -/
theorem witness_queryAperture :
    ∀ i ∈ [5, 20], ∀ s, s = submit cached (cmd 4 i 0 0 0 0) →
      CapacityLaw s ∧ ApertureLaw s ∧ s.takes 0 (some .queryAperture) ∧ slotAperture (s.slots.get 0) = some (Fin.ofNat 64 i) := by
  intro i hi s hs
  refine ⟨?_, hs ▸ cached_apertureLaw, ?_⟩ <;> subst hs <;> revert i
  · unfold CapacityLaw; decide
  · unfold State.takes; decide

/-- The report of aperture 5 of the example of spec/01: LIVE, DIRECT, READ_WRITE, STRICT, owner 3, generation 0. -/
theorem test_queryAperture :
    after (exec .queryAperture (submit live (cmd 4 5 0 0 0 0))) (fun t => decide ((t.slots.get 0).words =
      #v[0x0504, 0x00000375, 0x00100000, 16, 0x34500000, 0, 0x12])) = true := by decide

/-! ## The revocation commands -/

/-- `s` with one posted write of aperture 5 in the queue. -/
def withWrite (s : State) : State := { s with pwq := [write5 0 .queued MarkSet.empty], nextSeq := 1 }

/-- AP_RETIRE 5 with a write to mark and with none, by the generation and by ANY. -/
theorem witness_apRetire :
    ∀ s ∈ [submit live (cmd 2 5 0 0 0 0), submit live (cmd 2 5 0x1FFFF 0 0 0), withWrite (submit live (cmd 2 5 0 0 0 0))],
      DrainLaw s ∧ s.takes 0 (some .apRetire) ∧ slotAperture (s.slots.get 0) = some 5 ∧ (s.apertures.get 5).life = .live grant5 ∧
      ((slotWord (s.slots.get 0) 1).getLsbD 16 = true ∨
        (slotWord (s.slots.get 0) 1).extractLsb' 0 16 = (s.apertures.get 5).generation) := by
  unfold DrainLaw State.takes
  decide

theorem test_apRetire :
    after (exec .apRetire (submit live (cmd 2 5 0 0 0 0)))
      (fun t => decide ((t.apertures.get 5).life = .free ∧ (t.apertures.get 5).generation = 1 ∧ t.views.get 3 = [9] ∧
        (t.slots.get 0).words.get 6 = 1)) ∧
    after (exec .apRetire (withWrite (submit live (cmd 2 5 0 0 0 0))))
      (fun t => decide ((t.apertures.get 5).life = .retiring grant5 ∧ (t.slots.get 0).state = .waiting)) = true := by decide

/-- AP_INVALIDATE of the last page of aperture 9 with nothing to mark, and of aperture 5's page 2 with the write there. -/
theorem witness_apInvalidate :
    (∀ s ∈ [submit cached (cmd 3 9 3 1 0 0)], DrainLaw s ∧ s.takes 0 (some .apInvalidate) ∧
      slotAperture (s.slots.get 0) = some 9 ∧ (s.apertures.get 9).life = .live grant9 ∧ 3 + 1 ≤ grant9.pages) ∧
    (∀ s ∈ [withWrite (submit live (cmd 3 5 2 1 0 0))], DrainLaw s ∧ s.takes 0 (some .apInvalidate) ∧
      slotAperture (s.slots.get 0) = some 5 ∧ (s.apertures.get 5).life = .live grant5 ∧ 2 + 1 ≤ grant5.pages) := by
  unfold DrainLaw State.takes
  decide

theorem test_apInvalidate :
    after (exec .apInvalidate (submit cached (cmd 3 9 3 1 0 0)))
      (fun t => decide (t.tc = [entry9 0 0x0000200 false] ∧ (t.slots.get 0).words.get 6 = 1 ∧ (t.slots.get 0).state = .done)) ∧
    after (exec .apInvalidate (withWrite (submit live (cmd 3 5 2 1 0 0))))
      (fun t => decide ((t.slots.get 0).state = .waiting ∧ t.bears 0 = true)) = true := by decide

/-- AP_RETIRE of a FREE, a RETIRING and a LIVE record of another generation; AP_INVALIDATE of a FREE record, of 0 pages, and one page
past the last. -/
theorem witness_revocationRefuses :
    [submit live (cmd 2 7 0 0 0 0), (submit live (cmd 2 5 0 0 0 0)).setAperture 5 { generation := 0, life := .retiring grant5 },
      submit live (cmd 2 5 1 0 0 0)].map (fun s => (s.nextTake, slotCommand (s.slots.get 0), slotAperture (s.slots.get 0))) =
        [(some 0, some .apRetire, some 7), (some 0, some .apRetire, some 5), (some 0, some .apRetire, some 5)] ∧
    [submit live (cmd 3 7 0 1 0 0), submit live (cmd 3 9 3 0 0 0), submit live (cmd 3 9 3 2 0 0)].map
      (fun s => (s.nextTake, slotCommand (s.slots.get 0), slotAperture (s.slots.get 0))) =
        [(some 0, some .apInvalidate, some 7), (some 0, some .apInvalidate, some 9), (some 0, some .apInvalidate, some 9)] := by
  decide

theorem test_stale :
    after (exec .apRetire (submit live (cmd 2 5 1 0 0 0))) (fun t => decide ((t.slots.get 0).status = .stale)) = true := by decide

/-- FLUSH with an empty queue and with a write in it. -/
theorem witness_flush :
    ∀ s ∈ [submit live (cmd 48 0 0 0 0 0), withWrite (submit live (cmd 48 0 0 0 0 0))], DrainLaw s ∧ s.takes 0 (some .flush) := by
  unfold DrainLaw State.takes
  decide

theorem test_flush :
    after (exec .flush (withWrite (submit live (cmd 48 0 0 0 0 0))))
      (fun t => decide ((t.slots.get 0).state = .waiting ∧ t.pwq.map (fun e => e.marks.get 0) = [true])) = true := by decide

/-- `live` with a command in slot 0 in a state, on the submission list. -/
def running (s : State) (st : SlotState) (words : Vector Word 7) : State := { s with
  slots := s.slots.set 0 { state := st, words := words, status := .none, qualifier := .error }
  submission := [0] }

/-- A WAITING command of each kind with no entry bearing its mark, and a RUNNING preload that no walk holds. -/
theorem witness_completions :
    (∀ p ∈ [(2, Command.apRetire), (3, .apInvalidate), (48, .flush), (18, .reqHalt)], ∀ s ∈ [running live .waiting (cmd p.1 3 0 0 0 0)],
      (s.slots.get 0).state = .waiting ∧ slotCommand (s.slots.get 0) = some p.2 ∧ s.pwq = [] ∧ s.rdt = []) ∧
    (((running live .waiting (cmd 2 5 0 0 0 0)).setAperture 5 { generation := 0, life := .retiring grant5 }).apertures.get 5).life =
      .retiring grant5 ∧
    ((running live .running (cmd 32 9 0 0 0 0)).slots.get 0).state = .running ∧
    slotCommand ((running live .running (cmd 32 9 0 0 0 0)).slots.get 0) = some .tcPreload ∧
    (running live .running (cmd 32 9 0 0 0 0)).walks = [] := by decide

theorem test_completions :
    after (exec (.apRetireCompletion 0)
        ((running live .waiting (cmd 2 5 0 0 0 0)).setAperture 5 { generation := 0xFFFF, life := .retiring grant5 }))
      (fun t => decide ((t.apertures.get 5).generation = 0 ∧ (t.slots.get 0).state = .done ∧ t.submission = [])) ∧
    after (exec (.reqHaltCompletion 0) (running (asks live .halting false) .waiting (cmd 18 3 0 0 0 0)))
      (fun t => decide ((t.requesters.get 3).state = .halted)) ∧
    after (exec (.flushCompletion 0) (running live .waiting (cmd 48 0 0 0 0 0))) (fun t => decide ((t.slots.get 0).state = .done)) ∧
    after (exec (.apInvalidateCompletion 0) (running live .waiting (cmd 3 9 0 1 0 0))) (fun t => decide ((t.slots.get 0).state = .done)) ∧
    after (exec (.tcPreloadCompletion 0 .noPage) (running live .running (cmd 32 9 0 0 0 0)))
      (fun t => decide ((t.slots.get 0).status = .noPage)) = true := by decide

/-- The mark set of slot 0 alone. -/
def marks0 : MarkSet := addMark 0 MarkSet.empty

/-- A WAITING FLUSH in slot 0 over a queue under port tag 0. -/
def flushing (l : List PostedWrite) : State := { running live .waiting (cmd 48 0 0 0 0 0) with
  pwq := l
  nextSeq := 2
  portTags := live.portTags.set 0 (.busy .write 1000) }

theorem test_departure :
    after (exec (.answer 0 .error) (flushing [write5 0 (.issued 0) marks0]))
      (fun t => decide ((t.slots.get 0).state = .done ∧ (t.slots.get 0).words.get 5 = 1 ∧ t.pwq = [] ∧
        (t.requesters.get 3).firstFault = some (.writeLost .error 0x00102A40 5))) = true := by decide

/-! ## The cache commands -/

/-- TC_PRELOAD refused as NOT_LIVE, NOT_MAPPED and, one page past the last, RANGE; and of a page that is cached, with and without
room for a pin. -/
theorem witness_tcPreloadEnds :
    [(submit cached (cmd 32 7 0 0 0 0), Status.notLive), (submit cached (cmd 32 5 0 0 0 0), .notMapped),
      (submit cached (cmd 32 9 4 0 0 0), .range),
      ({ submit live #v[0x08000920, 0, 0, 0, 0, 0, 0] with tc := entry9 0 0 false :: List.replicate 24 (entry9 1 0 true) }, .pinLimit),
      ({ submit live #v[0x08000920, 0, 0, 0, 0, 0, 0] with tc := entry9 0 0 false :: List.replicate 23 (entry9 1 0 true) }, .none)].all
      (fun p => after (exec .tcPreload p.1) fun t => decide (p.1.nextTake = some 0 ∧ (t.slots.get 0).status = p.2)) = true := by decide

/-- TC_PRELOAD of a page that is not cached: with a walk to join, with 3 walks and with 4. -/
theorem witness_tcPreloadWaits :
    (submit cached (cmd 32 9 1 0 0 0)).takes 0 (some .tcPreload) ∧
    slotAperture ((submit cached (cmd 32 9 1 0 0 0)).slots.get 0) = some 9 ∧
    ((submit cached (cmd 32 9 1 0 0 0)).apertures.get 9).life = .live grant9 ∧
    (∀ e ∈ (submit cached (cmd 32 9 1 0 0 0)).tc, TcEntry.isFor 9 0 1 e = false) ∧
    FirstOf (Walk.isFor 9 0 1) [walk9 1 (.issued 0) []] [] (walk9 1 (.issued 0) []) [] ∧
    after (exec .tcPreload { submit cached (cmd 32 9 1 0 0 0) with walks := List.replicate 3 (walk9 2 .waitingTag []) })
      (fun t => decide (t.walks.length = 4 ∧ (t.slots.get 0).state = .running)) = true ∧
    after (exec .tcPreload { submit cached (cmd 32 9 1 0 0 0) with walks := List.replicate 4 (walk9 2 .waitingTag []) })
      (fun t => decide ((t.slots.get 0).status = .walkBusy)) = true :=
  ⟨⟨by decide, by decide⟩, by decide, by decide, by decide, ⟨rfl, by decide, by decide⟩, by decide, by decide⟩

/-- TC_UNPIN of index 64, of a page that is not cached, and of the pinned page. -/
theorem witness_tcUnpin :
    [(submit cached (cmd 33 64 3 0 0 0), Status.badIndex), (submit cached (cmd 33 9 1 0 0 0), .notCached),
      (submit cached (cmd 33 9 3 0 0 0), .none)].all (fun p => after (exec .tcUnpin p.1) fun t =>
        decide (p.1.nextTake = some 0 ∧ slotCommand (p.1.slots.get 0) = some .tcUnpin ∧ (t.slots.get 0).status = p.2)) = true ∧
    after (exec .tcUnpin (submit cached (cmd 33 9 3 0 0 0)))
      (fun t => decide (t.tc = [entry9 0 0x0000200 false, entry9 3 0x00ABCDE false])) = true := by decide

theorem cached_translationLaw : TranslationLaw cached := by unfold TranslationLaw; decide

/-- QUERY_TC of the last position held and of the first that holds none. -/
theorem witness_queryTc :
    ∀ k ∈ [1, 2], ∀ s, s = submit cached (cmd 34 k 0 0 0 0) → CapacityLaw s ∧ ApertureLaw s ∧ TranslationLaw s ∧
      s.takes 0 (some .queryTc) ∧ k = (slotIndex (s.slots.get 0)).toNat ∧ k ≤ 31 ∧ s.tc.length = 2 := by
  intro k hk s hs
  refine ⟨?_, hs ▸ cached_apertureLaw, hs ▸ cached_translationLaw, ?_⟩ <;> subst hs <;> revert k
  · unfold CapacityLaw; decide
  · unfold State.takes; decide

/-- Position 1 of `cached`: 2 entries, 1 pinned; the entry pinned and readable, aperture 9, page 3, frame 0x00ABCDE. -/
theorem test_queryTc :
    after (exec .queryTc (submit cached (cmd 34 1 0 0 0 0))) (fun t => decide ((t.slots.get 0).words =
      #v[0x0122, 0x09060102, 0x00030000, 0x00ABCDE, 0, 0, 0])) = true := by decide

/-! ## The host memory port -/

/-- A FREE tag with a walk waiting; with a contest under each favour; with the queue alone and the tracker alone. -/
theorem witness_grant :
    live.portTags.get 0 = .free ∧
    FirstOf (fun w => decide (w.state = .waitingTag)) [walk9 0 (.issued 1) [], walk9 1 .waitingTag []] [walk9 0 (.issued 1) []]
      (walk9 1 .waitingTag []) [] ∧
    FirstOf (fun e => decide (e.state = .queued)) [write5 0 (.issued 1) MarkSet.empty, write5 1 .queued MarkSet.empty]
      [write5 0 (.issued 1) MarkSet.empty] (write5 1 .queued MarkSet.empty) [] ∧
    FirstOf (fun d => decide (d.state = .ready)) [read5 2 1 .orderWait [0] MarkSet.empty, read5 3 2 .ready [] MarkSet.empty]
      [read5 2 1 .orderWait [0] MarkSet.empty] (read5 3 2 .ready [] MarkSet.empty) [] :=
  ⟨by decide, ⟨rfl, by decide, by decide⟩, ⟨rfl, by decide, by decide⟩, ⟨rfl, by decide, by decide⟩⟩

/-- `live` with a write QUEUED and a read READY. -/
def contested (c : Contest) : State := { live with
  pwq := [write5 0 .queued MarkSet.empty]
  rdt := [read5 1 0 .ready [] MarkSet.empty]
  contest := c }

/-- Events 10 and 12 of the example of spec/09: the favoured source wins, and the memory then favours the loser. -/
theorem test_contest :
    after (exec (.grant 3) (contested .pwq)) (fun t => decide (t.contest = .rdt ∧ t.portTags.get 3 = .busy .write 0 ∧
      t.pwq.map PostedWrite.state = [.issued 3] ∧ t.rdt.map ReadEntry.state = [.ready])) ∧
    after (exec (.grant 7) (contested .rdt)) (fun t => decide (t.contest = .pwq ∧ t.portTags.get 7 = .busy .read 0 ∧
      t.portOut = [.read 7 0x123450FFC0 64])) = true := by decide

/-- A write ISSUED under tag 0 that no command has marked, its time at the limit; one of a requester that its loss stops. -/
theorem witness_writeDeparts :
    ∀ b ∈ [false, true], ∀ s ∈ [{ asks live .enabled b with
        pwq := [write5 0 (.issued 0) MarkSet.empty]
        portTags := live.portTags.set 0 (.busy .write 1000) }],
      s.portTags.get 0 = .busy .write 1000 ∧ PostedWrite.holdsTag 0 (write5 0 (.issued 0) MarkSet.empty) = true ∧
      (∀ n, (write5 0 (.issued 0) MarkSet.empty).marks.get n = false) ∧ s.overdue 1000 ∧ ¬s.overdue 999 ∧
      ((s.requesters.get 3).stops ↔ b = true) := by
  unfold State.overdue
  decide

/-- A read ISSUED under tag 0, its time at the limit, with its discard flag clear and set. -/
theorem witness_readDeparts :
    ∀ b ∈ [false, true], ∀ s ∈ [{ live with
        rdt := [{ read5 0 1 (.issued 0) [] MarkSet.empty with discard := b }]
        portTags := live.portTags.set 0 (.busy .read 1000) }],
      s.portTags.get 0 = .busy .read 1000 ∧ ReadEntry.holdsTag 0 { read5 0 1 (.issued 0) [] MarkSet.empty with discard := b } = true ∧
      (∀ n, (read5 0 1 (.issued 0) [] MarkSet.empty).marks.get n = false) ∧ s.overdue 1000 := by
  unfold State.overdue
  decide

/-- Events 9 and 12 of the example of spec/03: a discarded read's data is dropped; its error is captured all the same. -/
theorem test_discard :
    ∀ s ∈ [{ live with
        rdt := [{ read5 0 1 (.issued 0) [] MarkSet.empty with discard := true }]
        portTags := live.portTags.set 0 (.busy .read 5) }],
      after (exec (.answer 0 (.ok (List.replicate 64 7))) s) (fun t => decide (t.linkOut = [] ∧ t.rdt = [])) = true ∧
      after (exec (.answer 0 .error) s)
        (fun t => decide (t.linkOut = [] ∧ (t.requesters.get 3).firstFault = some (.memoryError .error 0x0010FFC0 5))) = true := by decide

/-- A tag of each state, and one BUSY for an orphaned walk. -/
theorem witness_lateAnswers :
    ∀ s ∈ [{ live with
        portTags := (live.portTags.set 1 .quarantined).set 2 (.busy .walk 1000)
        walks := [{ walk9 1 (.issued 2) [] with orphaned := true }] }],
      s.portTags.get 0 = .free ∧ s.portTags.get 1 = .quarantined ∧ s.portTags.get 2 = .busy .walk 1000 ∧ s.overdue 1000 ∧
      ¬s.overdue 999 ∧ Walk.holdsTag 2 { walk9 1 (.issued 2) [] with orphaned := true } = true := by
  unfold State.overdue
  decide

theorem test_expiry :
    after (exec (.expiry 2) { live with portTags := live.portTags.set 2 (.busy .walk 999) })
      (fun t => decide (t.portTags.get 2 = .busy .walk 999)) ∧
    after (exec (.expiry 0) (flushing [write5 0 (.issued 0) marks0]))
      (fun t => decide (t.portTags.get 0 = .quarantined ∧ (t.requesters.get 3).firstFault = some (.writeLost .timeout 0x00102A40 5)))
      = true := by decide

/-! ## The completion of a walk -/

/-- `s` with a walk of aperture 9 page 3 ISSUED under tag 0. -/
def walking (s : State) (w : Walk) : State := { s with walks := [w], portTags := s.portTags.set 0 (.busy .walk 1000) }

/-- A walk without waiters, alone and with a preload of slot 0 that asks for a pin; the answer valid and not. -/
theorem witness_walkEnds :
    (∀ o ∈ [none, some ((0 : SlotId), true)], ∀ s ∈ [walking (running live .running (cmd 32 9 3 0 0 0))
        { walk9 3 (.issued 0) [] with preload := o }],
      s.portTags.get 0 = .busy .walk 1000 ∧ Walk.holdsTag 0 { walk9 3 (.issued 0) [] with preload := o } = true ∧
      (s.slots.get 0).state = .running ∧ s.overdue 1000) ∧
    (entryBytes 7).length = 8 ∧ (pageEntryOf (entryBytes 7)).valid = true ∧ (pageEntryOf (entryBytes 6)).valid = false ∧
    (pageEntryOf (entryBytes 7)).frame = 0x00ABCDE := by
  unfold State.overdue
  decide

/-- Installation with 31 entries and with 32, where the unpinned entry furthest from the head goes (event 9 of spec/04's example). -/
theorem test_install :
    after (exec (.answer 0 (.ok (entryBytes 7)))
      (walking { live with tc := entry9 0 1 false :: entry9 1 2 false :: List.replicate 29 (entry9 2 3 true) } (walk9 3 (.issued 0) [])))
      (fun t => decide (t.tc.length = 32 ∧ (t.tc.map TcEntry.page).take 3 = [3, 0, 1])) ∧
    after (exec (.answer 0 (.ok (entryBytes 7)))
      (walking { live with tc := entry9 0 1 false :: entry9 1 2 false :: List.replicate 30 (entry9 2 3 true) } (walk9 3 (.issued 0) [])))
      (fun t => decide (t.tc.length = 32 ∧ (t.tc.map TcEntry.page).take 3 = [3, 0, 2])) = true := by decide

/-- A completed walk with no waiter, one and three, with a preload that asks for a pin and without, its requester stopping and not,
the cache holding 31 and 32 entries; a page that permits both directions and one that refuses a WRITE. -/
theorem witness_resumed :
    (∀ ps ∈ [[], [rd 0 0x00203010 16], [wr 0 0x00203010 16, rd 1 0x00203010 16, wr 2 0x00203020 4].map maskEnables],
      ∀ c ∈ [(none, false, 30), (some ((0 : SlotId), true), false, 31), (some ((0 : SlotId), true), true, 30), (none, true, 31)],
      ∀ s ∈ [walking (running { asks live .enabled c.2.1 with tc := entry9 0 1 false :: List.replicate c.2.2 (entry9 2 3 true) }
          .running (cmd 32 9 3 0 0 0)) { walk9 3 (.issued 0) ps with preload := c.1 }],
        s.portTags.get 0 = .busy .walk 1000 ∧ s.walks.all (Walk.holdsTag 0) = true ∧
        (∀ q ∈ ps, maskEnables q = q) ∧ (s.slots.get 0).state = .running ∧ (s.apertures.get 9).life = .live grant9 ∧
        s.tc.length = c.2.2 + 1 ∧ ((s.requesters.get 3).stops ↔ c.2.1 = true)) ∧
    [3, 7].all (fun f => decide ((entryBytes f).length = 8 ∧ (pageEntryOf (entryBytes f)).valid = true)) = true ∧
    pagePermits (pageEntryOf (entryBytes 7)).readable (pageEntryOf (entryBytes 7)).writable .write = true ∧
    pagePermits (pageEntryOf (entryBytes 3)).readable (pageEntryOf (entryBytes 3)).writable .write = false := by decide

/-- The last place of the tracker and of the queue, at a resumption. -/
theorem test_resumedCapacity :
    [(rd 0 0x00203010 16, 7), (rd 0 0x00203010 16, 8)].map (fun p => (after (exec (.answer 0 (.ok (entryBytes 7)))
        { walking live (walk9 3 (.issued 0) [p.1]) with rdt := List.replicate p.2 (read5 0 1 .ready [] MarkSet.empty) }) fun t =>
      decide (t.linkOut = [⟨3, 0, .retry .trackerFull⟩]))) = [false, true] ∧
    [(maskEnables (wr 0 0x00203010 16), 7), (maskEnables (wr 0 0x00203010 16), 8)].map (fun p => (after
        (exec (.answer 0 (.ok (entryBytes 7)))
          { walking live (walk9 3 (.issued 0) [p.1]) with pwq := List.replicate p.2 (write5 0 .queued MarkSet.empty) }) fun t =>
      decide (t.linkOut = [⟨3, 0, .retry .queueFull⟩]))) = [false, true] := by decide

/-- Later turns see earlier ones (R125): the READ behind the WRITE to its line is held by it. A WRITE that its page refuses stops
the requester and takes the waiter behind it (R97, R98). -/
theorem test_resumedTurns :
    after (exec (.answer 0 (.ok (entryBytes 7)))
      (walking live (walk9 3 (.issued 0) [maskEnables (wr 0 0x00203010 16), rd 1 0x00203010 16])))
      (fun t => decide (t.rdt.map ReadEntry.state = [.orderWait] ∧ t.linkOut = [⟨3, 0, .accept⟩])) ∧
    after (exec (.answer 0 (.ok (entryBytes 3)))
      (walking (asks live .enabled true) (walk9 3 (.issued 0) [maskEnables (wr 0 0x00203010 16), rd 1 0x00203010 16])))
      (fun t => decide (t.linkOut = [⟨3, 0, .abort .permission⟩, ⟨3, 1, .abort .stopped⟩] ∧ t.walks = [] ∧ t.rdt = []))
      = true := by decide

/-- The READ of spec/01's example at 0x00203010, resumed with frame 0x00ABCDE. -/
theorem test_resumed :
    after (exec (.answer 0 (.ok (entryBytes 7))) (walking live (walk9 3 (.issued 0) [rd 0 0x00203010 16])))
      (fun t => decide (t.rdt.map ReadEntry.memAddr = [0x00ABCDE010] ∧ t.walks = [] ∧ t.tc.map TcEntry.page = [3])) = true := by decide

/-- Two waiters of one requester on a walk that gives no translation, with a preload and without, the requester stopping and not. -/
theorem witness_failedWalk :
    ∀ b ∈ [false, true], ∀ o ∈ [none, some ((0 : SlotId), true)],
      ∀ s ∈ [walking (running (asks live .enabled b) .running (cmd 32 9 3 0 0 0))
        { walk9 3 (.issued 0) [rd 0 0x00203010 16, rd 1 0x00203020 4] with preload := o }],
      s.portTags.get 0 = .busy .walk 1000 ∧ FaultCountLaw s ∧ ((s.requesters.get 3).stops ↔ b = true) ∧ s.overdue 1000 ∧
      s.walks.all (Walk.holdsTag 0) = true ∧ (s.slots.get 0).state = .running ∧ (pageEntryOf (entryBytes 6)).valid = false := by
  unfold State.overdue FaultCountLaw
  decide

/-- A failed walk that carries a waiter and a preload tells both (R100). -/
theorem test_failedWalkWithPreload :
    after (exec (.expiry 0) (walking (running live .running (cmd 32 9 3 0 0 0))
        { walk9 3 (.issued 0) [rd 0 0x00203010 16] with preload := some (0, true) }))
      (fun t => decide (t.linkOut = [⟨3, 0, .abort .walkError⟩] ∧ (t.slots.get 0).status = .walkError ∧
        (t.slots.get 0).qualifier = .timeout ∧ t.walks = [] ∧ t.portTags.get 0 = .quarantined)) = true := by decide

/-- The first waiter's failure stops the requester and takes the waiter behind it (R98). -/
theorem test_failedWalk :
    after (exec (.answer 0 (.ok (entryBytes 6)))
      (walking (asks live .enabled true) (walk9 3 (.issued 0) [rd 0 0x00203010 16, rd 1 0x00203020 4])))
      (fun t => decide (t.linkOut = [⟨3, 0, .abort .noPage⟩, ⟨3, 1, .abort .stopped⟩] ∧ (t.requesters.get 3).state = .stopped ∧
        (t.requesters.get 3).faultCount = 1)) ∧
    after (exec (.expiry 0)
      (walking (asks live .enabled false) (walk9 3 (.issued 0) [rd 0 0x00203010 16, rd 1 0x00203020 4])))
      (fun t => decide (t.linkOut = [⟨3, 0, .abort .walkError⟩, ⟨3, 1, .abort .walkError⟩] ∧ (t.requesters.get 3).faultCount = 2))
      = true := by decide

/-! ## Slots and the control window -/

/-- The submission list of the example of spec/10 after its event 2: slots 0, 1 and 3 share aperture 4, slot 2 does not. -/
theorem test_nextTake :
    State.nextTake { live with
      slots := (((live.slots.set 0 { state := .waiting, words := cmd 2 4 0 0 0 0, status := .none, qualifier := .error }).set 1
        { state := .pending, words := cmd 1 4 0 0 0 0, status := .none, qualifier := .error }).set 2
        { state := .pending, words := cmd 1 9 0 0 0 0, status := .none, qualifier := .error }).set 3
        { state := .pending, words := cmd 4 4 0 0 0 0, status := .none, qualifier := .error }
      submission := [0, 1, 2, 3] } = some 2 := by decide

/-- A code that names no command, and an index one past the range of each target: 64, 16 and 32. -/
theorem witness_badTakes :
    [(0x77, 0, none), (1, 64, some Command.apSet), (2, 64, some .apRetire), (3, 64, some .apInvalidate), (4, 64, some .queryAperture),
      (32, 64, some .tcPreload), (33, 64, some .tcUnpin), (16, 16, some .reqEnable), (17, 16, some .reqDisable), (18, 16, some .reqHalt),
      (19, 16, some .reqResume), (20, 16, some .faultClear), (21, 16, some .queryRequester), (34, 32, some .queryTc)].all
      (fun (p : Nat × Nat × Option Command) =>
        decide ((submit live (cmd p.1 p.2.1 0 0 0 0)).nextTake = some 0 ∧
          slotCommand ((submit live (cmd p.1 p.2.1 0 0 0 0)).slots.get 0) = p.2.2 ∧
          (slotIndex ((submit live (cmd p.1 p.2.1 0 0 0 0)).slots.get 0)).toNat = p.2.1)) = true := by decide

theorem test_badOp :
    after (exec .badOp (submit live (cmd 0x77 0 0 0 0 0))) (fun t => decide ((t.slots.get 0).status = .badOp)) ∧
    after (exec .queryTc (submit live (cmd 34 32 0 0 0 0))) (fun t => decide ((t.slots.get 0).status = .badIndex)) = true := by decide

/-- The words whose action fields are START, ACK and 3. -/
theorem witness_slotWrites :
    live.resetLow = false ∧ writtenAction 0x01000000 = 1#2 ∧ writtenAction 0x02000000 = 2#2 ∧ writtenAction 0x03000000 = 3#2 ∧
    (live.slots.get 0).state = .free ∧ ((running live .done (cmd 48 0 0 0 0 0)).slots.get 0).state = .done := by decide

theorem test_slotWrites :
    after (exec (.start 3 0x01000000) live) (fun t => decide ((t.slots.get 3).state = .pending ∧ t.submission = [3])) ∧
    after (exec (.start 0 0x01000000) (submit live (cmd 48 0 0 0 0 0))) (fun t => decide (t.submission = [0] ∧ t.submitError = true)) ∧
    after (exec (.ack 0 0x02000000) (running live .done (cmd 48 0 0 0 0 0))) (fun t => decide ((t.slots.get 0).state = .free)) ∧
    after (exec (.ack 0 0x02000000) (running live .waiting (cmd 48 0 0 0 0 0))) (fun t => t.submitError) ∧
    after (exec (.slotWordWrite 0 6 5) live) (fun t => decide (slotWord (t.slots.get 0) 6 = 5)) ∧
    after (exec (.word7Action3 0 0x03000000) live) (fun t => t.submitError) = true := by decide

theorem witness_registerWrites : live.resetLow = false ∧ (1#32).getLsbD 1 = false := by decide

theorem test_registerWrites :
    after (exec (.responseLimitWrite 0xFFFFF123) live) (fun t => decide (t.responseLimit = 0x123)) ∧
    after (exec (.intEnableWrite 0xFFFFFFFD) live) (fun t => decide (t.intEnable = 5)) ∧
    after (exec (.intStatusWrite 0xFFFFFFFB) { live with submitError := true }) (fun t => t.submitError) ∧
    after (exec (.intStatusWrite 4) { live with submitError := true }) (fun t => !t.submitError) ∧
    after (exec (.linkEnable 0) live) (fun t => !t.linkEnable) = true := by decide

/-- Accesses of other than one word at the edges of what the register map lists. -/
theorem witness_accesses :
    live.resetLow = false ∧
    [(0x013, true), (0x014, false), (0x0FF, false), (0x100, true), (0x1FF, true), (0x200, false), (0xFFF, false)].all
      (fun (p : BitVec 12 × Bool) => after (exec (.registerWrite p.1 [0xFF]) live) fun t =>
        decide (t.submitError = p.2 ∧ t.slots = live.slots)) = true ∧
    after (exec (.registerWrite 0x012 [1, 2, 3, 4]) live) (fun t => t.submitError) = true := by decide

/-- One aligned word, least significant byte first: slot 7's word 6 at 0x1F8, and a START of slot 7 at 0x1FC. -/
theorem test_wordAccess :
    after (exec (.registerWrite 0x1F8 [0x78, 0x56, 0x34, 0x12]) live) (fun t => decide (slotWord (t.slots.get 7) 6 = 0x12345678)) ∧
    after (exec (.registerWrite 0x1FC [0, 0, 0, 1]) live) (fun t => decide (t.submission = [7])) = true := by decide

/-- ID by its fields (register map of spec/10): vendor 0xA6C, part 0x312, revision 1. Word 7 of a FAILED slot: state 5, WALK_ERROR,
TIMEOUT. INT_N: CMD_NOTIFY pending and enabled. -/
theorem test_windowReads :
    windowWord live 0x000 = 0xA6C31201 ∧ windowByte live 0x003 = 0xA6 ∧ windowWord live 0x010 = 1000 ∧
    windowWord (live.setSlot 2 { state := .failed, words := cmd 32 9 0 0 0 0, status := .walkError, qualifier := .timeout }) 0x15C =
      0x00011105 ∧
    intNLow { running live .done #v[0x80000030, 0, 0, 0, 0, 0, 0] with intEnable := 1 } = true ∧
    intNLow (running live .done #v[0x80000030, 0, 0, 0, 0, 0, 0]) = false := by decide

/-! ## The laws that every step keeps, and the headline results -/

/-- A state in which every law but those of a drain has something to say: a cached page, a parked READ on an ISSUED walk, a posted
write that bears the mark of a WAITING FLUSH, a read that it holds, and a requester with a fault. -/
def work : State := { (live.setRequester 4
    { state := .stopped, stopOnFault := true, firstFault := some (.protocol .read 0), faultCount := 1 }) with
  linkTags := ((live.setLinkTag 3 0 .busy).setLinkTag 3 1 .busy).linkTags
  tc := [entry9 0 0x0000200 true]
  walks := [walk9 3 (.issued 0) [rd 0 0x00203010 16]]
  pwq := [write5 0 .queued marks0]
  rdt := [read5 1 1 .orderWait [0] MarkSet.empty]
  portTags := live.portTags.set 0 (.busy .walk 5)
  slots := live.slots.set 0 { state := .waiting, words := cmd 48 0 0 0 0 0, status := .none, qualifier := .error }
  submission := [0]
  nextSeq := 2
  pending := [.grant 1] }

theorem witness_capacity : CapacityLaw work ∧ ∃ t, step work = .next t := ⟨by unfold CapacityLaw; decide, _, rfl⟩

theorem witness_faultCount : FaultCountLaw work ∧ ∃ t, step work = .next t := ⟨by unfold FaultCountLaw; decide, _, rfl⟩

theorem witness_linkTag : (TranslationLaw work ∧ LinkTagLaw work) ∧ ∃ t, step work = .next t :=
  ⟨⟨by unfold TranslationLaw; decide, by unfold LinkTagLaw; decide⟩, _, rfl⟩

theorem witness_portTag : PortTagLaw work ∧ ∃ t, step work = .next t := by
  refine ⟨fun t k => ?_, _, rfl⟩
  cases k <;> revert t <;> decide

theorem witness_order : (QueueOrderLaw work ∧ ReadOrderLaw work) ∧ ∃ t, step work = .next t :=
  ⟨⟨by unfold QueueOrderLaw; decide, by unfold ReadOrderLaw; decide⟩, _, rfl⟩

theorem witness_aperture : ApertureLaw work ∧ ∃ t, step work = .next t :=
  ⟨apertureLaw_of (by decide) (by decide) (by decide), _, rfl⟩

theorem witness_drain : DrainLaw work ∧ ∃ t, step work = .next t := ⟨by unfold DrainLaw; decide, _, rfl⟩

theorem witness_resetHeld :
    ResetHeldLaw { State.reset with resetLow := true, pending := [.arrival (rd 0 0 4)] } ∧
    ∃ t, step { State.reset with resetLow := true, pending := [.arrival (rd 0 0 4)] } = .next t := ⟨fun _ => rfl, _, rfl⟩

/-- The marks of slots 0 and 1. -/
def marks01 : MarkSet := addMark 1 marks0

/-- A RETIRING aperture that slot 0 drains and its HALTING owner that slot 1 drains, with some posted writes and reads and one
BUSY port tag. -/
def drainingOf (pwq : List PostedWrite) (rdt : List ReadEntry) (kind : PortKind) : State :=
  { (asks live .halting false).setAperture 5 { generation := 0xFFFF, life := .retiring grant5 } with
    pwq := pwq
    rdt := rdt
    portTags := live.portTags.set 2 (.busy kind 1000)
    slots := (live.slots.set 0 { state := .waiting, words := cmd 2 5 0 0 0 0, status := .none, qualifier := .error }).set 1
      { state := .waiting, words := cmd 18 3 0 0 0 0, status := .none, qualifier := .error }
    submission := [0, 1]
    nextSeq := 2
    pending := [.answer 2 (.ok [])] }

/-- The last posted write of that aperture and that requester, with its answer next. -/
def draining : State := drainingOf [write5 0 (.issued 2) marks01] [] .write

theorem draining_translationLaw : TranslationLaw draining := by unfold TranslationLaw; decide

theorem draining_commandLaw : CommandLaw draining := by unfold CommandLaw started; decide

theorem draining_parkedLaw : ParkedLaw draining := by unfold ParkedLaw; decide

theorem drained_retire (n : SlotId) : (drainingOf [] [] .write).retires n 5 ↔ n = 0 := by unfold State.retires; revert n; decide

theorem drained_halt (n : SlotId) : (drainingOf [] [] .write).halts n 3 ↔ n = 1 := by unfold State.halts; revert n; decide

theorem drained_apertures :
    ((drainingOf [] [] .write).apertures.get 5).life = .retiring grant5 ∧
    ∀ a : ApIndex, a ≠ 5 → liveGrant ((drainingOf [] [] .write).apertures.get a) =
      grantOf ((drainingOf [] [] .write).apertures.get a) := by decide

theorem drained_requesters :
    ((drainingOf [] [] .write).requesters.get 3).state = .halting ∧
    ∀ r : RequesterId, r ≠ 3 → ((drainingOf [] [] .write).requesters.get r).state = .disabled := by decide

theorem drained_slots :
    slotAperture ((drainingOf [] [] .write).slots.get 0) = some 5 ∧
    slotRequester ((drainingOf [] [] .write).slots.get 1) = some 3 ∧
    (∀ n : SlotId, ((drainingOf [] [] .write).slots.get n).state = .waiting →
      slotCommand ((drainingOf [] [] .write).slots.get n) = some .apRetire → n = 0) ∧
    ∀ n : SlotId, ((drainingOf [] [] .write).slots.get n).state = .waiting →
      slotCommand ((drainingOf [] [] .write).slots.get n) = some .reqHalt → n = 1 := by decide

theorem drainingOf_retireLaw {pwq : List PostedWrite} {rdt : List ReadEntry} (kind : PortKind)
    (hw : ∀ e ∈ pwq, e.aperture = 5 ∧ e.marks.get 0 = true) (hr : ∀ d ∈ rdt, d.aperture = 5 ∧ d.marks.get 0 = true) :
    RetireLaw (drainingOf pwq rdt kind) := by
  obtain ⟨h5, hne⟩ := drained_apertures
  obtain ⟨ha, -, h0, -⟩ := drained_slots
  have free : ∀ a, ((drainingOf pwq rdt kind).apertures.get a).life = .free → a ≠ 5 := by
    rintro a h rfl
    exact ApLife.noConfusion (h5.symm.trans h)
  refine ⟨fun a h => ⟨fun e he heq => free a h (heq ▸ (hw e he).1), fun d hd heq => free a h (heq ▸ (hr d hd).1)⟩,
    fun a g h => ?_, fun n hn hc => ?_, fun m n a hm hn => (h0 m hm.1 hm.2.1).trans (h0 n hn.1 hn.2.1).symm⟩
  · have h' : ((drainingOf [] [] .write).apertures.get a).life = .retiring g := h
    obtain rfl : a = 5 := by
      by_contra hna
      have := hne a hna
      simp [liveGrant, grantOf, h'] at this
    exact ⟨0, (drained_retire 0).2 rfl, fun e he _ => (hw e he).2, fun d hd _ => (hr d hd).2⟩
  · obtain rfl := h0 n hn hc
    exact ⟨5, grant5, ha, h5⟩

theorem drainingOf_haltLaw {pwq : List PostedWrite} {rdt : List ReadEntry} (kind : PortKind)
    (hw : ∀ e ∈ pwq, e.requester = 3 ∧ e.marks.get 1 = true) (hr : ∀ d ∈ rdt, d.requester = 3 ∧ d.marks.get 1 = true) :
    HaltLaw (drainingOf pwq rdt kind) := by
  obtain ⟨h3, hne⟩ := drained_requesters
  obtain ⟨-, hq, -, h1⟩ := drained_slots
  have other : ∀ r st, st ≠ .disabled → ((drainingOf pwq rdt kind).requesters.get r).state = st → r = 3 := by
    intro r st hst h
    by_contra hr
    exact hst (h.symm.trans (hne r hr))
  refine ⟨fun r h => ?_, fun r h => ?_, fun n hn hc => ?_,
    fun m n r hm hn => (h1 m hm.1 hm.2.1).trans (h1 n hn.1 hn.2.1).symm⟩
  · obtain rfl := other r .halted (by decide) h
    exact RequesterState.noConfusion (h3.symm.trans h)
  · obtain rfl := other r .halting (by decide) h
    exact ⟨1, (drained_halt 1).2 rfl, fun e he _ => (hw e he).2, fun d hd _ => (hr d hd).2⟩
  · obtain rfl := h1 n hn hc
    exact ⟨3, hq, h3⟩

theorem draining_retireLaw : RetireLaw draining := drainingOf_retireLaw _ (by decide) (by decide)

theorem draining_haltLaw : HaltLaw draining := drainingOf_haltLaw _ (by decide) (by decide)

/-- The departure of a marked write and of a marked read, as a retirement and a halt see it: the last bearer and not the last, the
response limit reached. -/
theorem witness_departure :
    (∀ l ∈ [[], [write5 1 .queued marks01]], ∀ s ∈ [drainingOf (write5 0 (.issued 2) marks01 :: l) [] .write],
      RetireLaw s ∧ HaltLaw s ∧ s.portTags.get 2 = .busy .write 1000 ∧ s.overdue 1000 ∧
      FirstOf (PostedWrite.holdsTag 2) s.pwq [] (write5 0 (.issued 2) marks01) l ∧ s.retires 0 5 ∧ s.halts 1 3) ∧
    (∀ l ∈ [[], [read5 1 1 .ready [] marks01]], ∀ s ∈ [drainingOf [] (read5 0 0 (.issued 2) [] marks01 :: l) .read],
      RetireLaw s ∧ HaltLaw s ∧ s.portTags.get 2 = .busy .read 1000 ∧ s.overdue 1000 ∧
      FirstOf (ReadEntry.holdsTag 2) s.rdt [] (read5 0 0 (.issued 2) [] marks01) l ∧ s.retires 0 5 ∧ s.halts 1 3) ∧
    marks01.get 0 = true ∧ marks01.get 1 = true := by
  have limit : (live.responseLimit ≠ 0 ∧ live.responseLimit.toNat ≤ 1000) := by decide
  refine ⟨fun l hl s hs => ?_, fun l hl s hs => ?_, by decide, by decide⟩ <;> obtain rfl := List.mem_singleton.1 hs
  · exact ⟨drainingOf_retireLaw _ (by revert l; decide) (by simp), drainingOf_haltLaw _ (by revert l; decide) (by simp), rfl, limit,
      ⟨rfl, by simp, by decide⟩, (drained_retire 0).2 rfl, (drained_halt 1).2 rfl⟩
  · exact ⟨drainingOf_retireLaw _ (by simp) (by revert l; decide), drainingOf_haltLaw _ (by simp) (by revert l; decide), rfl, limit,
      ⟨rfl, by simp, by decide⟩, (drained_retire 0).2 rfl, (drained_halt 1).2 rfl⟩

theorem witness_endsRequest :
    live.endsRequest 2 5 (.answer 2 (.ok [7])) .free none ∧ live.endsRequest 2 5 (.answer 2 .error) .free (some .error) ∧
    live.endsRequest 2 1000 (.expiry 2) .quarantined (some .timeout) :=
  ⟨.inl ⟨_, rfl, rfl, rfl⟩, .inr (.inl ⟨rfl, rfl, rfl⟩), .inr (.inr ⟨rfl, ⟨by decide, by decide⟩, rfl, rfl⟩)⟩

/-- A marked read answered OK sends its DATA and frees its port tag, though its aperture is RETIRING and its requester HALTING. -/
theorem test_markedReadAnswered :
    after (exec (.answer 2 (.ok (List.replicate 64 7))) (drainingOf [] [read5 0 0 (.issued 2) [] marks01] .read))
      (fun t => decide (t.linkOut = [⟨3, 0, .data (List.replicate 64 7)⟩] ∧ t.portTags.get 2 = .free ∧
        (t.slots.get 0).words.get 5 = 0 ∧ t.views.get 3 = [9])) = true := by decide

/-- A read of the retiring life that expires: a loss in the retirement's word 5 and none in the halt's; with a write still marked
both wait on, and as the last bearer it ends both, generation 0xFFFF wrapping to 0. -/
theorem test_markedReadExpires :
    after (exec (.expiry 2) (drainingOf [write5 1 .queued marks01] [read5 0 0 (.issued 2) [] marks01] .read))
      (fun t => decide ((t.slots.get 0).state = .waiting ∧ (t.slots.get 0).words.get 5 = 1 ∧ (t.slots.get 1).words.get 5 = 0 ∧
        (t.requesters.get 3).state = .halting)) ∧
    after (exec (.expiry 2) (drainingOf [] [read5 0 0 (.issued 2) [] marks01] .read))
      (fun t => decide ((t.slots.get 0).state = .done ∧ (t.slots.get 0).words.get 5 = 1 ∧ (t.slots.get 0).words.get 6 = 0 ∧
        (t.apertures.get 5).life = .free ∧ (t.requesters.get 3).state = .halted)) = true := by decide

theorem witness_translationsAndRetirements :
    TranslationLaw work ∧ (TranslationLaw draining ∧ RetireLaw draining) ∧ (∃ t, step work = .next t) ∧ ∃ t, step draining = .next t :=
  ⟨by unfold TranslationLaw; decide, ⟨draining_translationLaw, draining_retireLaw⟩, ⟨_, rfl⟩, _, rfl⟩

/-- A walk that carries the preload of slot 0 and a waiter. -/
def preloading : State := { walking (running live .running #v[0x08000920, 3, 0, 0, 0, 0, 0])
    { walk9 3 (.issued 0) [rd 0 0x00203010 16] with preload := some (0, true) } with pending := [.answer 0 .error] }

theorem preloading_laws : (ApertureLaw preloading ∧ WaiterLaw preloading) ∧
    TranslationLaw preloading ∧ CommandLaw preloading ∧ PreloadLaw preloading := by
  refine ⟨⟨apertureLaw_of (by decide) (by decide) (by decide), ?_⟩, by unfold TranslationLaw; decide,
    by unfold CommandLaw started; decide, ?_, by decide, ?_⟩
  · intro w hw q hq
    obtain rfl := List.mem_singleton.1 hw
    obtain rfl := List.mem_singleton.1 hq
    exact ⟨grant9, by decide, by decide⟩
  · intro w hw n pin h
    obtain rfl := List.mem_singleton.1 hw
    cases h
    decide
  · intro n hn
    have h0 : ∀ n : SlotId, (preloading.slots.get n).state = .running → n = 0 := by decide
    obtain rfl := h0 n hn
    exact ⟨_, List.mem_singleton.2 rfl, true, rfl⟩

theorem witness_commandsAndHalts :
    CommandLaw draining ∧ ParkedLaw work ∧ ParkedFormLaw work ∧ (ApertureLaw preloading ∧ WaiterLaw preloading) ∧
    (TranslationLaw preloading ∧ CommandLaw preloading ∧ PreloadLaw preloading) ∧ (∃ t, step preloading = .next t) ∧ (CommandLaw draining ∧ ParkedLaw draining ∧ HaltLaw draining) ∧
    (∃ t, step work = .next t) ∧ ∃ t, step draining = .next t :=
  ⟨draining_commandLaw, by unfold ParkedLaw; decide, by unfold ParkedFormLaw; decide, preloading_laws.1, preloading_laws.2,
    ⟨_, rfl⟩, ⟨draining_commandLaw, draining_parkedLaw, draining_haltLaw⟩, ⟨_, rfl⟩, _, rfl⟩

/-- The one departure ends the retirement and the halt. -/
theorem witness_drained :
    TranslationLaw draining ∧ RetireLaw draining ∧ draining.retires 0 5 ∧
    CommandLaw draining ∧ ParkedLaw draining ∧ HaltLaw draining ∧ draining.halts 1 3 ∧
    ∃ t, step draining = .next t ∧ (t.slots.get 0).state = .done ∧ (t.slots.get 1).state = .done := by
  refine ⟨draining_translationLaw, draining_retireLaw, ?_, draining_commandLaw, draining_parkedLaw, draining_haltLaw, ?_, _, rfl, ?_⟩
  · unfold State.retires; decide
  · unfold State.halts; decide
  · decide

/-- A READY read behind a write of another requester, with the grant of tag 1 next (R127). -/
def readNext : State := { live with
  pwq := [{ write5 0 (.issued 0) MarkSet.empty with requester := 4 }]
  rdt := [read5 1 1 .ready [] MarkSet.empty]
  nextSeq := 2
  pending := [.grant 1] }

theorem witness_readIssued :
    ReadOrderLaw readNext ∧ (∀ x ∈ readNext.rdt, ∀ p, x.state ≠ .issued p) ∧
    ∃ t, step readNext = .next t ∧ read5 1 1 (.issued 1) [] MarkSet.empty ∈ t.rdt ∧ ∃ e ∈ t.pwq, e.seq < 1 :=
  ⟨by unfold ReadOrderLaw; decide, by decide, _, rfl, by decide, by decide⟩

/-! ## Host memory's terms -/

/-- Requests in their order of issue: a page map read, a write of aperture 5's line 0x1234502A40, a read of the same line. -/
def issuedRequests : List PortMessage :=
  [.walkRead 0 0x0008001018, .write 1 0x1234502A40 4 0x0F [1, 2, 3, 4], .read 2 0x1234502A40 4]

/-- The walk, the write and the read outstanding, the grant of tag 3 next. -/
def outstanding : State := { live with
  walks := [walk9 3 (.issued 0) []]
  pwq := [{ write5 0 (.issued 1) MarkSet.empty with length := 4, enables := 0x0F, data := [1, 2, 3, 4] }]
  rdt := [{ read5 1 1 (.issued 2) [] MarkSet.empty with memAddr := 0x1234502A40, length := 4 }, read5 2 2 .ready [] MarkSet.empty]
  portTags := ((live.portTags.set 0 (.busy .walk 5)).set 1 (.busy .write 5)).set 2 (.busy .read 5)
  portOut := issuedRequests
  nextSeq := 3
  pending := [.grant 3] }

theorem outstanding_law : OutstandingLaw outstanding := by
  refine ⟨?_, ?_, ?_⟩ <;> decide

/-- The front commands that perform a part reset, and what stands just beside them. -/
theorem witness_resets :
    live.resetsBy (.partReset .powerOn) ∧ live.resetsBy (.softReset 2) ∧ live.resetsBy (.linkEnable 3) ∧
    live.resetsBy (.registerWrite 0x004 [2, 0, 0, 0]) ∧ ¬live.resetsBy (.softReset 1) ∧ ¬live.resetsBy (.grant 3) ∧
    (∃ t, step { live with pending := [.registerWrite 0x004 [2, 0, 0, 0]] } = .next t ∧ t.portOut = [.resetSignal]) :=
  ⟨trivial, ⟨by decide, by decide⟩, ⟨by decide, by decide⟩, ⟨by decide, by decide, 2, 0, 0, 0, rfl, by decide⟩,
    fun h => by exact absurd h.2 (by decide), fun h => h, _, rfl, by decide⟩

theorem witness_portOrder : (PortTagLaw outstanding ∧ OutstandingLaw outstanding) ∧ ∃ t, step outstanding = .next t := by
  refine ⟨⟨fun t k => ?_, outstanding_law⟩, _, rfl⟩
  cases k <;> revert t <;> decide

/-- The write performed, then the read; the read's answer carries the write's bytes. The walk is performed last. -/
def served : List HostEvent := [.performs 1 0x0F, .performs 2 0, .performs 0 0]

theorem witness_heldBytes :
    OutstandingLaw outstanding ∧ outstanding.mayAnswer (fun _ => 0) served 2 (.ok [1, 2, 3, 4]) ∧
    outstanding.mayAnswer (fun _ => 0) served 0 (.ok (List.replicate 8 0)) ∧
    outstanding.portTags.get 2 = .busy .read 5 ∧
    FirstOf (ReadEntry.holdsTag 2) outstanding.rdt []
      { read5 1 1 (.issued 2) [] MarkSet.empty with memAddr := 0x1234502A40, length := 4 } [read5 2 2 .ready [] MarkSet.empty] ∧
    (∀ n, MarkSet.empty.get n = false) := by
  have terms : HostTerms issuedRequests served := by unfold HostTerms; decide
  exact ⟨outstanding_law, ⟨terms, 2, by decide, _, _, [.performs 1 0x0F], 0, [.performs 0 0], rfl, rfl, by decide⟩,
    ⟨terms, 0, by decide, _, _, [.performs 1 0x0F, .performs 2 0], 0, [], rfl, rfl, by decide⟩, by decide,
    ⟨rfl, by simp, by decide⟩, by decide⟩

/-- The order terms of R158: the read issued behind the write may not be performed ahead of it; a write issued behind a read may. -/
theorem test_serviceOrder :
    ¬HostTerms issuedRequests [.performs 2 0, .performs 1 0x0F] ∧ HostTerms issuedRequests [.performs 1 0x0F, .performs 0 0] ∧
    ¬HostTerms issuedRequests [.performs 1 0x1F] := by
  unfold HostTerms
  decide

/-- R179: two 4-byte writes of a page map entry with the walk's read performed between them give a mixture of both entries. -/
theorem test_mixedEntry :
    bytesAfter [.walkRead 0 0x0008001018] (fun _ => 0xEE)
      [.otherWrites 0x0008001018 1, .otherWrites 0x0008001019 2, .otherWrites 0x000800101A 3, .otherWrites 0x000800101B 4]
      0x0008001018 8 = [1, 2, 3, 4, 0xEE, 0xEE, 0xEE, 0xEE] := by decide

end Sys2Proof.Machine.Tests
end

/-! ## One relation for all that a command can do

Every command is a chain of moves: small changes of the state, each with what the model has checked when it makes it. A law that
each move keeps is kept by every step (`keptByStep_of_move`). A move need not be a state the part rests in: the chain orders the
changes of one event so that each law holds between them. -/

namespace Sys2Proof.Machine

/-! ### Lists that come from lists -/

section Lists

variable {α : Type} {R : α → α → Prop}

theorem sublistForall₂_filterMap {f : α → Option α} {l : List α} (h : ∀ x ∈ l, ∀ y, f x = some y → R y x) :
    List.SublistForall₂ R (l.filterMap f) l := by
  induction l with
  | nil => exact .nil
  | cons x xs ih =>
    have hxs := ih fun y hy => h y (by simp [hy])
    cases hf : f x with
    | none => simpa [hf] using .cons_right hxs
    | some y => simpa [hf] using .cons (h x (by simp) y hf) hxs

theorem sublistForall₂_map {f : α → α} {l : List α} (h : ∀ x ∈ l, R (f x) x) : List.SublistForall₂ R (l.map f) l := by
  rw [← List.filterMap_eq_map]
  exact sublistForall₂_filterMap fun x hx y hy => by cases hy; exact h x hx

theorem sublistForall₂_updateFirst {p : α → Bool} {f : α → α} (refl : ∀ x, R x x) (h : ∀ x, p x = true → R (f x) x) (l : List α) :
    List.SublistForall₂ R (updateFirst p f l) l := by
  induction l with
  | nil => exact .nil
  | cons x xs ih =>
    unfold updateFirst
    split
    · exact .cons (h x ‹_›) (List.sublistForall₂_iff.2 ⟨xs, List.forall₂_same.2 fun y _ => refl y, .refl xs⟩)
    · exact .cons (refl x) ih

theorem sublistForall₂_of_sublist {l' l : List α} (refl : ∀ x, R x x) (h : l'.Sublist l) : List.SublistForall₂ R l' l :=
  List.sublistForall₂_iff.2 ⟨l', List.forall₂_same.2 fun x _ => refl x, h⟩

theorem origin_of_sublistForall₂ {l' l : List α} (h : List.SublistForall₂ R l' l) : ∀ y ∈ l', ∃ x ∈ l, R y x := by
  induction h with
  | nil => simp
  | cons hR _ ih =>
    intro y hy
    rcases List.mem_cons.1 hy with rfl | hy
    · exact ⟨_, by simp, hR⟩
    · obtain ⟨x, hx, hyx⟩ := ih y hy
      exact ⟨x, by simp [hx], hyx⟩
  | cons_right _ ih =>
    intro y hy
    obtain ⟨x, hx, hyx⟩ := ih y hy
    exact ⟨x, by simp [hx], hyx⟩

theorem pairwise_of_sublistForall₂ {S T : α → α → Prop} {l' l : List α} (h : List.SublistForall₂ R l' l) (hl : l.Pairwise S)
    (hST : ∀ x y x' y', R x' x → R y' y → S x y → T x' y') : l'.Pairwise T := by
  induction h with
  | nil => exact .nil
  | cons hR hs ih =>
    obtain ⟨hx, hxs⟩ := List.pairwise_cons.1 hl
    refine List.pairwise_cons.2 ⟨fun y' hy' => ?_, ih hxs⟩
    obtain ⟨y, hy, hyR⟩ := origin_of_sublistForall₂ hs y' hy'
    exact hST _ _ _ _ hR hyR (hx y hy)
  | cons_right _ ih => exact ih (List.pairwise_cons.1 hl).2

theorem mem_updateFirst {p : α → Bool} {f : α → α} {l : List α} {y : α} (h : y ∈ updateFirst p f l) :
    y ∈ l ∨ ∃ x ∈ l, p x = true ∧ y = f x := by
  induction l with
  | nil => exact .inl h
  | cons x xs ih =>
    unfold updateFirst at h
    split at h
    · rcases List.mem_cons.1 h with rfl | h
      · exact .inr ⟨x, by simp, ‹_›, rfl⟩
      · exact .inl (by simp [h])
    · rcases List.mem_cons.1 h with rfl | h
      · exact .inl (by simp)
      · rcases ih h with h | ⟨z, hz, hp⟩
        · exact .inl (by simp [h])
        · exact .inr ⟨z, by simp [hz], hp⟩

theorem map_updateFirst {β : Type} {p : α → Bool} {f : α → α} {g : α → β} (h : ∀ x, g (f x) = g x) (l : List α) :
    (updateFirst p f l).map g = l.map g := by
  induction l with
  | nil => rfl
  | cons x xs ih => by_cases hp : p x = true <;> simp [updateFirst, hp, h, ih]

theorem or_of_pairwise {S : α → α → Prop} {l : List α} (h : l.Pairwise S) {x y : α} (hx : x ∈ l) (hy : y ∈ l) (hne : x ≠ y) :
    S x y ∨ S y x := by
  induction h with
  | nil => simp at hx
  | cons hS _ ih =>
    rcases List.mem_cons.1 hx with hx | hx <;> rcases List.mem_cons.1 hy with hy | hy
    · exact absurd (hx.trans hy.symm) hne
    · exact .inl (hx ▸ hS _ hy)
    · exact .inr (hy ▸ hS _ hx)
    · exact ih hx hy

end Lists

/-! ### The words of the moves -/

/-- `s` with the records of the link, the port, the window and the queue of commands as in `u`: what no law below speaks of. -/
def State.withQuiet (s u : State) : State :=
  { u with
    apertures := s.apertures
    views := s.views
    requesters := s.requesters
    tc := s.tc
    walks := s.walks
    pwq := s.pwq
    rdt := s.rdt
    slots := s.slots
    submission := s.submission }

/-- A slot that the next take may take: PENDING, and no slot ahead of it on the submission list has its target (R170). -/
def State.takable (s : State) (n : SlotId) : Prop :=
  (s.slots.get n).state = .pending ∧ ∃ l₁ l₂, s.submission = l₁ ++ n :: l₂ ∧
    ∀ m ∈ l₁, slotTarget (s.slots.get n) ≠ none → slotTarget (s.slots.get m) ≠ slotTarget (s.slots.get n)

/-- The next take may take a command whose target is an aperture. -/
def State.takesAperture (s : State) (a : ApIndex) : Prop :=
  ∃ n, s.takable n ∧ slotTarget (s.slots.get n) = some (.aperture (slotIndex (s.slots.get n))) ∧
    slotAperture (s.slots.get n) = some a

/-- The next take may take a command whose target is a requester. -/
def State.takesRequester (s : State) (r : RequesterId) : Prop :=
  ∃ n, s.takable n ∧ slotTarget (s.slots.get n) = some (.requester (slotIndex (s.slots.get n))) ∧
    slotRequester (s.slots.get n) = some r

/-- No transaction of a requester is parked. -/
def State.noneParked (s : State) (r : RequesterId) : Prop := ∀ w ∈ s.walks, ∀ p ∈ w.waiters, p.requester ≠ r

/-- A requester's state may become `st` otherwise than by a halt: one that leaves ENABLED has nothing parked (R31), and one that
leaves HALTING does so by a command of its own. -/
def State.mayBecome (s : State) (r : RequesterId) (st : RequesterState) : Prop :=
  (st ≠ .halting ∧ st ≠ .halted) ∧ (st = .enabled ∨ (s.requesters.get r).state ≠ .enabled ∨ s.noneParked r) ∧
    ((s.requesters.get r).state = .halting → s.takesRequester r)

/-- A new entry of the queue or the tracker: its requester is ENABLED or has a transaction parked, and its aperture is LIVE or one
that a walk with waiters reads (R97). -/
def State.admits (s : State) (r : RequesterId) (a : ApIndex) : Prop :=
  ((s.requesters.get r).state = .enabled ∨ ∃ w ∈ s.walks, ∃ p ∈ w.waiters, p.requester = r) ∧
    ((∃ g, (s.apertures.get a).life = .live g) ∨ ∃ w ∈ s.walks, w.waiters ≠ [] ∧ w.aperture = a)

/-- A posted write later on: the same requester and aperture, and no mark fewer. -/
def PostedWrite.later (e' e : PostedWrite) : Prop :=
  e'.requester = e.requester ∧ e'.aperture = e.aperture ∧ ∀ n, e.marks.get n = true → e'.marks.get n = true

/-- A read later on. -/
def ReadEntry.later (d' d : ReadEntry) : Prop :=
  d'.requester = d.requester ∧ d'.aperture = d.aperture ∧ ∀ n, d.marks.get n = true → d'.marks.get n = true

/-- A walk later on: it may have lost waiters, got its port tag, or been orphaned. -/
def Walk.later (v w : Walk) : Prop :=
  (v.aperture = w.aperture ∧ v.generation = w.generation ∧ v.page = w.page ∧ v.entryAddr = w.entryAddr) ∧
  v.waiters.Sublist w.waiters ∧ (v.state = .waitingTag → w.state = .waitingTag) ∧
  (v.orphaned = w.orphaned ∧ v.preload = w.preload ∨
    v.orphaned = true ∧ v.waiters = [] ∧ v.preload = none ∧ v.state ≠ .waitingTag)

/-- What a cache entry translates. -/
def TcEntry.key (e : TcEntry) : ApIndex × Generation × Nat := (e.aperture, e.generation, e.page)

/-- The states, status codes and qualifiers in which a command ends (R165). -/
def endsWith (st : SlotState) (code : Status) (q : Qualifier) : Prop :=
  st = .done ∧ code = .none ∧ q = .error ∨ st = .failed ∧ code ≠ .none ∧ (q = .timeout → code = .walkError)

/-! ### A command's end -/

@[simp] theorem withEnd_slot (s : State) (n m : SlotId) (words : Vector Word 7) (st : SlotState) (code : Status) (q : Qualifier) :
    (s.withEnd n words st code q).slots.get m =
      if n = m then { state := st, words := words, status := code, qualifier := q } else s.slots.get m := vget_set ..

@[simp] theorem withDone_slot (s : State) (n m : SlotId) (words : Vector Word 7) :
    (s.withDone n words).slots.get m =
      if n = m then { state := .done, words := words, status := .none, qualifier := .error } else s.slots.get m := vget_set ..

@[simp] theorem withDone_apertures (s : State) (n : SlotId) (words : Vector Word 7) :
    (s.withDone n words).apertures = s.apertures := rfl

@[simp] theorem withDone_requesters (s : State) (n : SlotId) (words : Vector Word 7) :
    (s.withDone n words).requesters = s.requesters := rfl

/-! ### The moves -/

/-- One slot becomes `sl` and the submission list `sub`, where no record drains and no walk gets a preload waiter. -/
inductive SlotStep (s : State) (n : SlotId) : Slot → List SlotId → Prop where
  /-- A command ends that waits for no drain: a PENDING one, or a RUNNING one that no walk carries. -/
  | ends (words : Vector Word 7) (st : SlotState) (code : Status) (q : Qualifier)
      (ready : (s.slots.get n).state = .pending ∨
        (s.slots.get n).state = .running ∧ ∀ w ∈ s.walks, ∀ pin, w.preload ≠ some (n, pin))
      (ends : endsWith st code q) :
      SlotStep s n { state := st, words := words, status := code, qualifier := q } (s.submission.filter fun m => decide (m ≠ n))
  /-- Words of a slot are written: the host's of a FREE one, the part's of a WAITING one. -/
  | words (words : Vector Word 7)
      (ready : (s.slots.get n).state = .free ∨ (s.slots.get n).state = .waiting ∧ words.get 0 = slotWord (s.slots.get n) 0) :
      SlotStep s n { s.slots.get n with words := words } s.submission
  /-- START. -/
  | starts (free : (s.slots.get n).state = .free) :
      SlotStep s n { s.slots.get n with state := .pending } (s.submission ++ [n])
  /-- ACK. -/
  | frees (ended : ended (s.slots.get n) = true) :
      SlotStep s n { s.slots.get n with state := .free, status := .none, qualifier := .error } s.submission
  /-- A command that drains neither an aperture nor a requester waits. -/
  | waits (words : Vector Word 7) (take : s.takable n) (word : words.get 0 = slotWord (s.slots.get n) 0)
      (command : slotCommand (s.slots.get n) ≠ some .apRetire ∧ slotCommand (s.slots.get n) ≠ some .reqHalt) :
      SlotStep s n { s.slots.get n with state := .waiting, words := words } s.submission

/-- One small change of the state, with what has been checked when a command makes it. -/
inductive Move : State → State → Prop where
  /-- Records that no law below speaks of change. -/
  | quiet (s u : State) : Move s (s.withQuiet u)
  /-- Every block takes its reset values. -/
  | reset (s : State) : Move s State.reset
  /-- An AP_SET makes a record LIVE and puts it into its owner's view. -/
  | grants (s : State) (a : ApIndex) (g : Grant) (free : (s.apertures.get a).life = .free) (fits : grantFits g)
      (apart : s.overlapsView g = false) :
      Move s ((s.setAperture a { generation := (s.apertures.get a).generation, life := .live g }).setView g.owner
        (s.insertByBase g.linkBase.toNat a (s.views.get g.owner)))
  /-- A requester record changes otherwise than by a halt. -/
  | requester (s : State) (r : RequesterId) (x : Requester)
      (may : x.state = (s.requesters.get r).state ∨ s.mayBecome r x.state) : Move s (s.setRequester r x)
  /-- Cache entries go, move, or change their pins. -/
  | cache (s : State) (tc : List TcEntry) (keys : (tc.map TcEntry.key).Subperm (s.tc.map TcEntry.key)) :
      Move s { s with tc := tc }
  /-- Walks lose waiters, get port tags, are orphaned or, when orphaned, end. -/
  | walks (s : State) (ws : List Walk) (later : List.SublistForall₂ Walk.later ws s.walks)
      (preloads : ∀ w ∈ s.walks, w.orphaned = false → (∃ v ∈ ws, v.preload = w.preload) ∨ s.takesAperture w.aperture) :
      Move s { s with walks := ws }
  /-- A walk starts for a page that has neither a walk nor a cache entry. -/
  | walkStarts (s : State) (a : ApIndex) (g : Grant) (mapBase : MemAddr) (page : Nat)
      (live : (s.apertures.get a).life = .live g) (mapped : g.base = .mapped mapBase) (inPages : page < g.pages)
      (uncached : ∀ e ∈ s.tc, TcEntry.isFor a (s.apertures.get a).generation page e = false)
      (unwalked : ∀ w ∈ s.walks, Walk.isFor a (s.apertures.get a).generation page w = false) :
      Move s { s with walks := s.walks ++ [newWalk a (s.apertures.get a).generation page mapBase] }
  /-- A request of an ENABLED requester is parked on the walk of a page of its own LIVE aperture. -/
  | parks (s : State) (a : ApIndex) (g : Grant) (gen : Generation) (page : Nat) (q : Request)
      (enabled : (s.requesters.get q.requester).state = .enabled) (form : maskEnables q = q)
      (live : (s.apertures.get a).life = .live g) (own : a ∈ s.views.get q.requester) :
      Move s { s with
        walks := updateFirst (Walk.isFor a gen page) (fun (w : Walk) => { w with waiters := w.waiters ++ [q] }) s.walks }
  /-- A walk that is not orphaned ends, with its preload; its page may be installed. -/
  | walkEnds (s : State) (t : PortTagId) (w : Walk) (tc : List TcEntry) (o : PreloadEnd)
      (found : s.walks.find? (Walk.holdsTag t) = some w) (live : w.orphaned = false)
      (keys : tc = s.tc ∨ ∃ e l, tc = e :: l ∧ e.key = (w.aperture, w.generation, w.page) ∧ l.Sublist s.tc) :
      Move s ({ s with tc := tc, walks := s.walks.eraseP (Walk.holdsTag t) }.endPreloadOf w o)
  /-- Entries of the queue and the tracker go, change, or are made. -/
  | entries (s : State) (pwq : List PostedWrite) (rdt : List ReadEntry)
      (writes : ∀ e ∈ pwq, (∃ e₀ ∈ s.pwq, e.later e₀) ∨ s.admits e.requester e.aperture)
      (reads : ∀ d ∈ rdt, (∃ d₀ ∈ s.rdt, d.later d₀) ∨ s.admits d.requester d.aperture) :
      Move s { s with pwq := pwq, rdt := rdt }
  /-- A slot changes as `SlotStep` says. -/
  | slot (s : State) (n : SlotId) (sl : Slot) (sub : List SlotId) (step : SlotStep s n sl sub) :
      Move s { s with slots := s.slots.set n.val sl n.isLt, submission := sub }
  /-- A TC_PRELOAD becomes the preload waiter of its page's walk. -/
  | runs (s : State) (n : SlotId) (a : ApIndex) (gen : Generation) (page : Nat) (take : s.takable n)
      (command : slotCommand (s.slots.get n) = some .tcPreload) (aperture : slotAperture (s.slots.get n) = some a)
      (isPage : (slotWord (s.slots.get n) 1).toNat = page) (walked : s.walks.any (Walk.isFor a gen page) = true) :
      Move s ({ s with
        walks := updateFirst (Walk.isFor a gen page)
          (fun (w : Walk) => { w with preload := some (n, slotFlag (s.slots.get n)) }) s.walks }.setSlotState n .running)
  /-- An AP_RETIRE waits: its aperture, which no translation or live walk names any longer, is RETIRING. -/
  | retires (s : State) (n : SlotId) (words : Vector Word 7) (a : ApIndex) (g : Grant) (take : s.takable n)
      (word : words.get 0 = slotWord (s.slots.get n) 0) (command : slotCommand (s.slots.get n) = some .apRetire)
      (aperture : slotAperture (s.slots.get n) = some a) (live : (s.apertures.get a).life = .live g)
      (uncached : ∀ e ∈ s.tc, e.aperture ≠ a) (unwalked : ∀ w ∈ s.walks, w.aperture = a → w.orphaned = true ∧ w.waiters = [])
      (writes : ∀ e ∈ s.pwq, e.aperture = a → e.marks.get n = true) (reads : ∀ d ∈ s.rdt, d.aperture = a → d.marks.get n = true) :
      Move s ((s.setAperture a { generation := (s.apertures.get a).generation, life := .retiring g }).setSlot n
        { s.slots.get n with state := .waiting, words := words })
  /-- A REQ_HALT waits: its requester, which was ENABLED or STOPPED, is HALTING. -/
  | halts (s : State) (n : SlotId) (r : RequesterId) (x : Requester) (take : s.takable n)
      (command : slotCommand (s.slots.get n) = some .reqHalt) (isRequester : slotRequester (s.slots.get n) = some r)
      (state : (s.requesters.get r).state = .enabled ∧ s.noneParked r ∨ (s.requesters.get r).state = .stopped)
      (halting : x.state = .halting)
      (writes : ∀ e ∈ s.pwq, e.requester = r → e.marks.get n = true)
      (reads : ∀ d ∈ s.rdt, d.requester = r → d.marks.get n = true) :
      Move s ((s.setRequester r x).setSlotState n .waiting)
  /-- A drained AP_RETIRE ends and its aperture is FREE. -/
  | retired (s : State) (n : SlotId) (words : Vector Word 7) (a : ApIndex) (g : Grant)
      (waiting : (s.slots.get n).state = .waiting) (drained : s.bears n = false)
      (command : slotCommand (s.slots.get n) = some .apRetire) (aperture : slotAperture (s.slots.get n) = some a)
      (retiring : (s.apertures.get a).life = .retiring g) :
      Move s (((s.setView g.owner ((s.views.get g.owner).filter fun i => decide (i ≠ a))).setAperture a
        { generation := (s.apertures.get a).generation + 1, life := .free }).withDone n words)
  /-- A drained REQ_HALT ends and its requester is HALTED. -/
  | halted (s : State) (n : SlotId) (words : Vector Word 7) (r : RequesterId)
      (waiting : (s.slots.get n).state = .waiting) (drained : s.bears n = false)
      (command : slotCommand (s.slots.get n) = some .reqHalt) (isRequester : slotRequester (s.slots.get n) = some r)
      (halting : (s.requesters.get r).state = .halting) :
      Move s ((s.setRequester r { s.requesters.get r with state := .halted }).withDone n words)
  /-- A drained command ends that drains neither a RETIRING aperture nor a HALTING requester. -/
  | drained (s : State) (n : SlotId) (words : Vector Word 7)
      (waiting : (s.slots.get n).state = .waiting) (drained : s.bears n = false)
      (noRetire : slotCommand (s.slots.get n) = some .apRetire →
        ∀ a g, slotAperture (s.slots.get n) = some a → (s.apertures.get a).life ≠ .retiring g)
      (noHalt : slotCommand (s.slots.get n) = some .reqHalt →
        ∀ r, slotRequester (s.slots.get n) = some r → (s.requesters.get r).state ≠ .halting) :
      Move s (s.withDone n words)

/-- A chain of moves. -/
abbrev Moves : State → State → Prop := Relation.ReflTransGen Move

end Sys2Proof.Machine

/-! ## Views and lookup -/

namespace Sys2Proof.Machine

/-! ### Grants and ranges -/

@[simp] theorem grantOf_free (gen : Generation) : grantOf { generation := gen, life := .free } = none := rfl

@[simp] theorem grantOf_live (gen : Generation) (g : Grant) : grantOf { generation := gen, life := .live g } = some g := rfl

@[simp] theorem grantOf_retiring (gen : Generation) (g : Grant) : grantOf { generation := gen, life := .retiring g } = some g := rfl

theorem grantOf_of_free {a : Aperture} (h : a.life = .free) : grantOf a = none := by simp [grantOf, h]

theorem grantOf_of_live {a : Aperture} {g : Grant} (h : a.life = .live g) : grantOf a = some g := by simp [grantOf, h]

theorem grantOf_of_retiring {a : Aperture} {g : Grant} (h : a.life = .retiring g) : grantOf a = some g := by simp [grantOf, h]

theorem liveGrant_eq_some {a : Aperture} {g : Grant} : liveGrant a = some g ↔ a.life = .live g := by
  unfold liveGrant
  split <;> simp_all

theorem viewBase_of_grant {s : State} {i : ApIndex} {g : Grant} (h : grantOf (s.apertures.get i) = some g) :
    s.viewBase i = g.linkBase.toNat := by simp [State.viewBase, h]

theorem viewEnd_of_grant {s : State} {i : ApIndex} {g : Grant} (h : grantOf (s.apertures.get i) = some g) :
    s.viewEnd i = rangeEnd g := by simp [State.viewEnd, h]

theorem grantFits.base_lt_end {g : Grant} (h : grantFits g) : g.linkBase.toNat < rangeEnd g := by
  obtain ⟨-, hp, -⟩ := h
  unfold rangeEnd
  omega

theorem inRange_iff {g : Grant} {x : LinkAddr} : inRange g x = true ↔ g.linkBase.toNat ≤ x.toNat ∧ x.toNat < rangeEnd g := by
  simp [inRange]

/-! ### The entries of a view -/

/-- An aperture of a view has a grant whose owner is the view's requester. -/
theorem ApertureLaw.grant_of_mem {s : State} (law : ApertureLaw s) {r : RequesterId} {i : ApIndex} (h : i ∈ s.views.get r) :
    ∃ g, grantOf (s.apertures.get i) = some g ∧ g.owner = r ∧ grantFits g := by
  obtain ⟨members, -, fits⟩ := law
  obtain ⟨g, hg, hr⟩ := Option.map_eq_some_iff.1 ((members r i).1 h)
  exact ⟨g, hg, hr, fits i g hg⟩

theorem ApertureLaw.mem_view {s : State} (law : ApertureLaw s) {i : ApIndex} {g : Grant}
    (h : grantOf (s.apertures.get i) = some g) : i ∈ s.views.get g.owner := (law.1 g.owner i).2 (by simp [h])

theorem ApertureLaw.not_mem_of_free {s : State} (law : ApertureLaw s) {i : ApIndex} (h : (s.apertures.get i).life = .free)
    (r : RequesterId) : i ∉ s.views.get r := fun hi => by
  obtain ⟨g, hg, -⟩ := law.grant_of_mem hi
  simp [grantOf_of_free h] at hg

theorem ApertureLaw.viewBase_lt_viewEnd {s : State} (law : ApertureLaw s) {r : RequesterId} {i : ApIndex}
    (h : i ∈ s.views.get r) : s.viewBase i < s.viewEnd i := by
  obtain ⟨g, hg, -, fits⟩ := law.grant_of_mem h
  rw [viewBase_of_grant hg, viewEnd_of_grant hg]
  exact fits.base_lt_end

/-- Two apertures of one view whose ranges share an address are the same (R7). -/
theorem ApertureLaw.eq_of_overlap {s : State} (law : ApertureLaw s) {r : RequesterId} {i j : ApIndex}
    (hi : i ∈ s.views.get r) (hj : j ∈ s.views.get r) {x : Nat} (hix : s.viewBase i ≤ x ∧ x < s.viewEnd i)
    (hjx : s.viewBase j ≤ x ∧ x < s.viewEnd j) : i = j := by
  by_contra hne
  rcases or_of_pairwise (law.2.1 r) hi hj hne with h | h <;> omega

/-! ### Lookup (R8) -/

theorem lookup_eq_some {s : State} {r : RequesterId} {x : LinkAddr} {a : ApIndex} {g : Grant} (h : s.lookup r x = some (a, g)) :
    a ∈ s.views.get r ∧ (s.apertures.get a).life = .live g ∧ inRange g x = true := by
  obtain ⟨i, hi, hf⟩ := List.exists_of_findSome?_eq_some h
  split at hf
  · next g' hg =>
    split at hf
    · cases hf
      exact ⟨hi, liveGrant_eq_some.1 hg, ‹_›⟩
    · cases hf
  · cases hf

/-- A range is held by one aperture of the view alone, so the search cannot stop at another. -/
theorem ApertureLaw.lookup_of_live {s : State} (law : ApertureLaw s) {x : LinkAddr} {a : ApIndex} {g : Grant}
    (live : (s.apertures.get a).life = .live g) (range : inRange g x = true) : s.lookup g.owner x = some (a, g) := by
  have hg := grantOf_of_live live
  have ha := law.mem_view hg
  have found : (s.lookup g.owner x).isSome = true :=
    List.findSome?_isSome_iff.2 ⟨a, ha, by simp [liveGrant_eq_some.2 live, range]⟩
  obtain ⟨⟨b, h⟩, hb⟩ := Option.isSome_iff_exists.1 found
  obtain ⟨hb', liveB, rangeB⟩ := lookup_eq_some hb
  have hh := grantOf_of_live liveB
  have same : b = a := by
    refine law.eq_of_overlap (x := x.toNat) hb' ha ?_ ?_
    · rw [viewBase_of_grant hh, viewEnd_of_grant hh]
      exact inRange_iff.1 rangeB
    · rw [viewBase_of_grant hg, viewEnd_of_grant hg]
      exact inRange_iff.1 range
  subst same
  rw [hb, Option.some.inj (hh.symm.trans hg)]

/-- Settles O9: an aperture that holds the address is found, because the ranges of a view are disjoint. -/
theorem lookupFindsTheLiveApertureOfTheRange : Obligations.LookupFindsTheLiveApertureOfTheRange := by
  intro s r x a g law
  constructor
  · intro h
    obtain ⟨ha, live, range⟩ := lookup_eq_some h
    obtain ⟨g', hg', owner, -⟩ := law.grant_of_mem ha
    obtain rfl : g = g' := Option.some.inj ((grantOf_of_live live).symm.trans hg')
    exact ⟨live, owner, inRange_iff.1 range⟩
  · rintro ⟨live, rfl, range⟩
    exact law.lookup_of_live live (inRange_iff.2 range)

/-! ### The place of a new aperture (R6, R22, R23) -/

theorem insertByBase_split (s : State) (base : Nat) (a : ApIndex) (l : List ApIndex) :
    ∃ l₁ l₂, l = l₁ ++ l₂ ∧ s.insertByBase base a l = l₁ ++ a :: l₂ ∧ (∀ i ∈ l₁, s.viewBase i ≤ base) ∧
      ∀ j ∈ l₂.head?, base < s.viewBase j := by
  induction l with
  | nil => exact ⟨[], [], rfl, rfl, by simp, by simp⟩
  | cons j js ih =>
    unfold State.insertByBase
    split
    · exact ⟨[], j :: js, rfl, rfl, by simp, by simpa⟩
    · obtain ⟨l₁, l₂, rfl, h, h₁, h₂⟩ := ih
      exact ⟨j :: l₁, l₂, rfl, by simp [h], by simpa [Nat.le_of_not_lt ‹_›] using h₁, h₂⟩

/-- A grant that overlaps no range of its owner's view lies wholly ahead of or behind each of them. -/
theorem ApertureLaw.apart_of_not_overlaps {s : State} (law : ApertureLaw s) {g : Grant} (apart : s.overlapsView g = false)
    {i : ApIndex} (hi : i ∈ s.views.get g.owner) : s.viewEnd i ≤ g.linkBase.toNat ∨ rangeEnd g ≤ s.viewBase i := by
  obtain ⟨h, hh, -⟩ := law.grant_of_mem hi
  have := List.any_eq_false.1 apart i hi
  rw [viewEnd_of_grant hh, viewBase_of_grant hh]
  simp only [hh, rangesOverlap, Bool.and_eq_true, decide_eq_true_eq] at this
  omega

/-- A new aperture that overlaps nothing goes behind the ranges below it and ahead of those above it. -/
theorem ApertureLaw.insertByBase_view {s : State} (law : ApertureLaw s) {g : Grant} (fits : grantFits g)
    (apart : s.overlapsView g = false) (a : ApIndex) :
    ∃ l₁ l₂, s.views.get g.owner = l₁ ++ l₂ ∧ s.insertByBase g.linkBase.toNat a (s.views.get g.owner) = l₁ ++ a :: l₂ ∧
      (∀ i ∈ l₁, s.viewEnd i ≤ g.linkBase.toNat) ∧ ∀ i ∈ l₂, rangeEnd g ≤ s.viewBase i := by
  obtain ⟨l₁, l₂, hl, hins, below, above⟩ := insertByBase_split s g.linkBase.toNat a (s.views.get g.owner)
  have split := @ApertureLaw.apart_of_not_overlaps s law g apart
  have sorted := law.2.1 g.owner
  have nonempty := @ApertureLaw.viewBase_lt_viewEnd s law g.owner
  have := fits.base_lt_end
  rw [hl] at split nonempty sorted
  refine ⟨l₁, l₂, hl, hins, fun i hi => ?_, fun i hi => ?_⟩
  · have := below i hi
    rcases split (List.mem_append_left _ hi) with h | h <;> omega
  · have hbase : g.linkBase.toNat < s.viewBase i := by
      cases l₂ with
      | nil => simp at hi
      | cons j js =>
        have hj := above j rfl
        rcases List.mem_cons.1 hi with rfl | hi
        · exact hj
        · have hlt := nonempty (i := j) (by simp)
          have hle := (List.pairwise_cons.1 (List.pairwise_append.1 sorted).2.1).1 i hi
          omega
    have := nonempty (List.mem_append_right _ hi)
    rcases split (List.mem_append_right _ hi) with h | h <;> omega

end Sys2Proof.Machine

/-! ## The operands and the checks of AP_SET -/

namespace Sys2Proof.Machine

theorem misaligned_eq_false {sl : Slot} :
    misaligned sl = false ↔ (slotWord sl 1).toNat % 4096 = 0 ∧ (slotMode sl = 1#2 → (slotBase sl).toNat % 4096 = 0) ∧
      (slotMode sl = 2#2 → (slotBase sl).toNat % 8 = 0) := by
  simp [misaligned, and_assoc]

theorem baseInBounds_eq_some {sl : Slot} {b : ApBase} :
    baseInBounds sl = some b ↔
      match b with
      | .direct m => slotMode sl = 1#2 ∧ m = slotBase sl ∧ m.toNat + (slotWord sl 2).toNat * 4096 ≤ 2 ^ 40
      | .mapped m => slotMode sl = 2#2 ∧ m = slotBase sl ∧ m.toNat + 8 * (slotWord sl 2).toNat ≤ 2 ^ 40 := by
  unfold baseInBounds
  by_cases direct : slotMode sl = 1#2
  · cases b <;> simp [direct, eq_comm]
    grind
  · by_cases mapped : slotMode sl = 2#2
    · cases b <;> simp [mapped, eq_comm]
      grind
    · cases b <;> simp [direct, mapped]

/-- Checks 3 and 4 of AP_SET pass exactly for operands that describe a grant with legal fields (R20, R21). -/
theorem grantOperands_eq_some {sl : Slot} {owner : RequesterId} {g : Grant} (hasOwner : slotOwner sl = some owner)
    (aligned : misaligned sl = false) : grantOperands sl owner = some g ↔ describes sl g ∧ grantFits g := by
  obtain ⟨linkAligned, directAligned, mappedAligned⟩ := misaligned_eq_false.1 aligned
  constructor
  · intro h
    unfold grantOperands at h
    split at h
    · next x o b hx ho hb =>
      split at h
      · next pages =>
        cases h
        simp only [pagesInBounds, Bool.and_eq_true, decide_eq_true_eq] at pages
        obtain ⟨⟨least, most⟩, top⟩ := pages
        cases b with
        | direct m =>
          obtain ⟨mode, rfl, bound⟩ := baseInBounds_eq_some.1 hb
          exact ⟨⟨hasOwner, rfl, rfl, hx, ho, mode, rfl⟩, linkAligned, least, most, top, directAligned mode, bound⟩
        | mapped m =>
          obtain ⟨mode, rfl, bound⟩ := baseInBounds_eq_some.1 hb
          exact ⟨⟨hasOwner, rfl, rfl, hx, ho, mode, rfl⟩, linkAligned, least, most, top, mappedAligned mode, bound⟩
      · cases h
    · cases h
  · rintro ⟨⟨hg, link, pages, access, ordering, base⟩, -, least, most, top, fits⟩
    obtain rfl : g.owner = owner := Option.some.inj (hg.symm.trans hasOwner)
    obtain ⟨o, l, p, b, x, ord⟩ := g
    dsimp only at link pages access ordering
    subst link pages
    have inBounds : baseInBounds sl = some b := by
      cases b with
      | direct m => exact baseInBounds_eq_some.2 ⟨base.1, base.2, fits.2⟩
      | mapped m => exact baseInBounds_eq_some.2 ⟨base.1, base.2, fits.2⟩
    have pagesIn : pagesInBounds sl = true := by
      simp only [pagesInBounds, Bool.and_eq_true, decide_eq_true_eq]
      exact ⟨⟨least, most⟩, top⟩
    simp [grantOperands, access, ordering, inBounds, pagesIn]

/-- The operands describe a grant with legal fields only where check 3 passes (R20). -/
theorem describes_aligned {sl : Slot} {g : Grant} (desc : describes sl g) (fits : grantFits g) : misaligned sl = false := by
  obtain ⟨-, link, -, -, -, base⟩ := desc
  obtain ⟨linkAligned, -, -, -, fits⟩ := fits
  refine misaligned_eq_false.2 ⟨link ▸ linkAligned, fun mode => ?_, fun mode => ?_⟩ <;> cases hb : g.base <;>
    simp only [baseFits, hb] at base fits <;> obtain ⟨mode', rfl⟩ := base
  · exact fits.1
  · simp [mode] at mode'
  · simp [mode] at mode'
  · exact fits.1

/-- Two ranges with legal fields overlap where they share an address (R7). -/
theorem rangesOverlap_iff {g h : Grant} (hg : grantFits g) (hh : grantFits h) :
    rangesOverlap g h = true ↔ ∃ x : LinkAddr, inRange g x = true ∧ inRange h x = true := by
  have lengthG := hg.base_lt_end
  have lengthH := hh.base_lt_end
  simp only [inRange_iff, rangesOverlap, Bool.and_eq_true, decide_eq_true_eq]
  constructor
  · rintro ⟨gh, hg⟩
    by_cases le : g.linkBase.toNat ≤ h.linkBase.toNat
    · exact ⟨h.linkBase, ⟨le, hg⟩, le_rfl, lengthH⟩
    · exact ⟨g.linkBase, ⟨le_rfl, lengthG⟩, by omega, gh⟩
  · rintro ⟨x, ⟨h₁, h₂⟩, h₃, h₄⟩
    omega

theorem overlapsView_iff {s : State} (law : ApertureLaw s) {g : Grant} (fits : grantFits g) :
    s.overlapsView g = true ↔ s.overlapped g := by
  unfold State.overlapsView State.overlapped
  rw [List.any_eq_true]
  refine exists_congr fun i => and_congr_right fun hi => ?_
  obtain ⟨h, hh, -, fitsH⟩ := law.grant_of_mem hi
  rw [hh]
  simp only [Option.some.injEq, exists_eq_left']
  exact rangesOverlap_iff fits fitsH

end Sys2Proof.Machine

/-! ## Every move keeps the views -/

namespace Sys2Proof.Machine

/-- The base and the end of an aperture depend on its grant alone. -/
theorem viewBase_congr {s t : State} {i : ApIndex} (h : grantOf (t.apertures.get i) = grantOf (s.apertures.get i)) :
    t.viewBase i = s.viewBase i ∧ t.viewEnd i = s.viewEnd i := by simp [State.viewBase, State.viewEnd, h]

theorem ApertureLaw.of_same_grants {s t : State} (law : ApertureLaw s) (views : t.views = s.views)
    (grants : ∀ i, grantOf (t.apertures.get i) = grantOf (s.apertures.get i)) : ApertureLaw t := by
  obtain ⟨members, sorted, fits⟩ := law
  refine ⟨fun r i => ?_, fun r => ?_, fun i g h => fits i g (grants i ▸ h)⟩
  · rw [views, grants]
    exact members r i
  · rw [views]
    refine (sorted r).imp fun {i j} h => ?_
    rw [(viewBase_congr (grants i)).2, (viewBase_congr (grants j)).1]
    exact h

theorem apertureLaw_reset : ApertureLaw State.reset := by
  refine ⟨fun r i => ?_, fun r => ?_, fun i g h => ?_⟩
  · simp [State.reset]
  · simp [State.reset]
  · simp [State.reset] at h

/-- A grant that fits and overlaps nothing joins the view in its place. -/
theorem ApertureLaw.grants {s : State} (law : ApertureLaw s) {a : ApIndex} {g : Grant} (free : (s.apertures.get a).life = .free)
    (fits : grantFits g) (apart : s.overlapsView g = false) (gen : Generation) :
    ApertureLaw ((s.setAperture a { generation := gen, life := .live g }).setView g.owner
      (s.insertByBase g.linkBase.toNat a (s.views.get g.owner))) := by
  obtain ⟨l₁, l₂, hl, hins, below, above⟩ := law.insertByBase_view fits apart a
  have notIn := law.not_mem_of_free free
  obtain ⟨members, sorted, legal⟩ := law
  rw [hins]
  generalize ht : (s.setAperture a { generation := gen, life := .live g }).setView g.owner (l₁ ++ a :: l₂) = t
  have new : grantOf (t.apertures.get a) = some g := by simp [← ht]
  have old : ∀ i, i ≠ a → grantOf (t.apertures.get i) = grantOf (s.apertures.get i) := fun i hi => by simp [← ht, hi.symm]
  have view : ∀ r, t.views.get r = if g.owner = r then l₁ ++ a :: l₂ else s.views.get r := fun r => by simp [← ht]
  have oldView : ∀ r i, i ∈ s.views.get r → t.viewBase i = s.viewBase i ∧ t.viewEnd i = s.viewEnd i := fun r i hi =>
    viewBase_congr (old i fun h => notIn r (h ▸ hi))
  have keep : ∀ r, (s.views.get r).Pairwise fun i j => t.viewEnd i ≤ t.viewBase j := fun r =>
    (sorted r).imp_of_mem fun hi hj h => by rw [(oldView r _ hi).2, (oldView r _ hj).1]; exact h
  refine ⟨fun r i => ?_, fun r => ?_, fun i h hi => ?_⟩
  · by_cases hia : i = a
    · subst hia
      rw [view, new]
      split
      · simp_all
      · simp_all [notIn r]
    · rw [old i hia, ← members r i, view]
      split
      · subst_vars
        simp [hl, hia]
      · rfl
  · rw [view]
    split
    · next hr =>
      have kept := keep g.owner
      rw [hl] at kept
      obtain ⟨h₁, h₂, h₁₂⟩ := List.pairwise_append.1 kept
      have base := viewBase_of_grant new
      have finish := viewEnd_of_grant new
      refine List.pairwise_append.2 ⟨h₁, List.pairwise_cons.2 ⟨fun j hj => ?_, h₂⟩, fun i hi j hj => ?_⟩
      · rw [finish, (oldView g.owner j (by simp [hl, hj])).1]
        exact above j hj
      · rcases List.mem_cons.1 hj with rfl | hj
        · rw [base, (oldView g.owner i (by simp [hl, hi])).2]
          exact below i hi
        · exact h₁₂ i hi j hj
    · exact keep r
  · by_cases hia : i = a
    · subst hia
      exact Option.some.inj (new.symm.trans hi) ▸ fits
    · exact legal i h (old i hia ▸ hi)

/-- A record that leaves its owner's view as it becomes FREE. -/
theorem ApertureLaw.frees {s : State} (law : ApertureLaw s) {a : ApIndex} {g : Grant}
    (grant : grantOf (s.apertures.get a) = some g) (gen : Generation) :
    ApertureLaw ((s.setView g.owner ((s.views.get g.owner).filter fun i => decide (i ≠ a))).setAperture a
      { generation := gen, life := .free }) := by
  obtain ⟨members, sorted, legal⟩ := law
  generalize ht : (s.setView g.owner ((s.views.get g.owner).filter fun i => decide (i ≠ a))).setAperture a
      { generation := gen, life := .free } = t
  have new : grantOf (t.apertures.get a) = none := by simp [← ht]
  have old : ∀ i, i ≠ a → grantOf (t.apertures.get i) = grantOf (s.apertures.get i) := fun i hi => by simp [← ht, hi.symm]
  have view : ∀ r, t.views.get r = (s.views.get r).filter fun i => decide (i ≠ a) := fun r => by
    simp only [← ht, State.setAperture_views, State.setView_get]
    split
    · subst_vars; rfl
    · refine (List.filter_eq_self.2 fun i hi => ?_).symm
      have := (members r i).1 hi
      simp only [ne_eq, decide_eq_true_eq]
      rintro rfl
      simp_all
  refine ⟨fun r i => ?_, fun r => ?_, fun i h hi => ?_⟩
  · by_cases hia : i = a
    · subst hia
      simp [view, new]
    · rw [old i hia, ← members r i, view]
      simp [hia]
  · rw [view]
    refine ((sorted r).filter _).imp_of_mem fun {i j} hi hj h => ?_
    rw [(viewBase_congr (old i (by simpa using List.of_mem_filter hi))).2,
      (viewBase_congr (old j (by simpa using List.of_mem_filter hj))).1]
    exact h
  · by_cases hia : i = a
    · subst hia
      simp [new] at hi
    · exact legal i h (old i hia ▸ hi)

theorem Move.apertureLaw {s t : State} (m : Move s t) (law : ApertureLaw s) : ApertureLaw t := by
  cases m with
  | reset => exact apertureLaw_reset
  | grants a g free fits apart => exact law.grants free fits apart _
  | walkEnds => rw [endPreloadOf_frame]; exact law
  | retires n words a g _ _ _ _ live =>
    refine law.of_same_grants rfl fun i => ?_
    by_cases h : a = i
    · subst h; simp [grantOf_of_live live]
    · simp [h]
  | retired n words a g _ _ _ _ retiring => exact law.frees (grantOf_of_retiring retiring) _
  | _ => exact law

end Sys2Proof.Machine

/-! ## Every move keeps the laws of parked transactions -/

namespace Sys2Proof.Machine

/-- A request may be parked on a walk of an aperture. -/
def State.mayPark (s : State) (a : ApIndex) (q : Request) : Prop :=
  (s.requesters.get q.requester).state = .enabled ∧ maskEnables q = q ∧ a ∈ s.views.get q.requester ∧
    ∃ g, (s.apertures.get a).life = .live g

/-- What stands parked after a move stood parked on a walk of the same aperture, or has just been parked. -/
theorem Move.waiter_origin {s t : State} (m : Move s t) {v : Walk} (hv : v ∈ t.walks) {q : Request} (hq : q ∈ v.waiters) :
    (∃ w ∈ s.walks, w.aperture = v.aperture ∧ q ∈ w.waiters) ∨
      s.mayPark v.aperture q ∧ t.requesters = s.requesters ∧ t.apertures = s.apertures := by
  cases m with
  | reset => cases hv
  | walks ws later =>
    obtain ⟨w, hw, ⟨ha, -⟩, hsub, -⟩ := origin_of_sublistForall₂ later v hv
    exact .inl ⟨w, hw, ha.symm, hsub.subset hq⟩
  | walkStarts =>
    rcases List.mem_append.1 hv with hv | hv
    · exact .inl ⟨v, hv, rfl, hq⟩
    · obtain rfl := List.mem_singleton.1 hv
      simp [newWalk] at hq
  | parks a g gen page p enabled form live own =>
    rcases mem_updateFirst hv with hv | ⟨w, hw, hfor, rfl⟩
    · exact .inl ⟨v, hv, rfl, hq⟩
    · rcases List.mem_append.1 hq with hq | hq
      · exact .inl ⟨w, hw, rfl, hq⟩
      · obtain rfl := List.mem_singleton.1 hq
        have ha : w.aperture = a := by simp [Walk.isFor] at hfor; tauto
        exact .inr ⟨⟨enabled, form, ha ▸ own, g, ha ▸ live⟩, rfl, rfl⟩
  | walkEnds =>
    rw [endPreloadOf_frame] at hv
    exact .inl ⟨v, List.mem_of_mem_eraseP hv, rfl, hq⟩
  | runs =>
    rcases mem_updateFirst hv with hv | ⟨w, hw, -, rfl⟩
    · exact .inl ⟨v, hv, rfl, hq⟩
    · exact .inl ⟨w, hw, rfl, hq⟩
  | _ => exact .inl ⟨v, hv, rfl, hq⟩

/-- A requester leaves ENABLED only when nothing of it is parked (R31). -/
theorem Move.enabled_kept {s t : State} (m : Move s t) {r : RequesterId} (enabled : (s.requesters.get r).state = .enabled)
    (parked : ¬s.noneParked r) : (t.requesters.get r).state = .enabled ∨ t.walks = [] := by
  cases m with
  | reset => exact .inr rfl
  | requester r' x may =>
    left
    simp only [State.setRequester_get]
    split
    · subst_vars
      obtain h | ⟨-, h | h | h, -⟩ := may
      · exact h.trans enabled
      · exact h
      · exact absurd enabled h
      · exact absurd h parked
    · exact enabled
  | halts n r' x _ _ _ state =>
    left
    simp only [State.setSlotState_requesters, State.setRequester_get]
    split
    · subst_vars
      rcases state with ⟨-, h⟩ | h
      · exact absurd h parked
      · simp [enabled] at h
    · exact enabled
  | halted n words r' _ _ _ _ halting =>
    left
    simp only [withDone_requesters, State.setRequester_get]
    rw [if_neg]
    · exact enabled
    · rintro rfl
      simp [enabled] at halting
  | walkEnds => rw [endPreloadOf_frame]; exact .inl enabled
  | _ => exact .inl enabled

/-- An aperture leaves LIVE only when nothing is parked on its walks (R141). -/
theorem Move.live_kept {s t : State} (m : Move s t) {a : ApIndex} {g : Grant} (live : (s.apertures.get a).life = .live g)
    (parked : ∃ w ∈ s.walks, w.aperture = a ∧ w.waiters ≠ []) : (t.apertures.get a).life = .live g ∨ t.walks = [] := by
  cases m with
  | reset => exact .inr rfl
  | grants b h free =>
    left
    simp only [State.setView_apertures, State.setAperture_get]
    rw [if_neg]
    · exact live
    · rintro rfl
      simp [live] at free
  | retires n words b h _ _ _ _ _ _ unwalked =>
    left
    simp only [State.setSlot_apertures, State.setAperture_get]
    rw [if_neg]
    · exact live
    · rintro rfl
      obtain ⟨w, hw, hwb, hne⟩ := parked
      exact hne (unwalked w hw hwb).2
  | retired n words b h _ _ _ _ retiring =>
    left
    simp only [withDone_apertures, State.setAperture_get]
    rw [if_neg]
    · exact live
    · rintro rfl
      simp [live] at retiring
  | walkEnds => rw [endPreloadOf_frame]; exact .inl live
  | _ => exact .inl live

theorem Move.parkedLaw {s t : State} (m : Move s t) (law : ParkedLaw s) : ParkedLaw t := by
  intro v hv q hq
  obtain ⟨w, hw, -, hqw⟩ | ⟨⟨enabled, -⟩, requesters, -⟩ := m.waiter_origin hv hq
  · refine (m.enabled_kept (law w hw q hqw) fun h => h w hw q hqw rfl).resolve_right fun h => ?_
    simp [h] at hv
  · rw [requesters]
    exact enabled

theorem Move.parkedFormLaw {s t : State} (m : Move s t) (law : ParkedFormLaw s) : ParkedFormLaw t := by
  intro v hv q hq
  obtain ⟨w, hw, -, hqw⟩ | ⟨⟨-, form, -⟩, -⟩ := m.waiter_origin hv hq
  · exact law w hw q hqw
  · exact form

theorem Move.waiterLaw {s t : State} (m : Move s t) (views : ApertureLaw s) (law : WaiterLaw s) : WaiterLaw t := by
  intro v hv q hq
  obtain ⟨w, hw, ha, hqw⟩ | ⟨⟨-, -, own, g, live⟩, -, apertures⟩ := m.waiter_origin hv hq
  · obtain ⟨g, live, owner⟩ := law w hw q hqw
    refine ⟨g, (m.live_kept (ha ▸ live) ⟨w, hw, ha, List.ne_nil_of_mem hqw⟩).resolve_right fun h => ?_, owner⟩
    simp [h] at hv
  · obtain ⟨g', hg', owner, -⟩ := views.grant_of_mem own
    obtain rfl : g = g' := Option.some.inj ((grantOf_of_live live).symm.trans hg')
    exact ⟨g, by rw [apertures]; exact live, owner⟩

end Sys2Proof.Machine

/-! ## Every move keeps the law of translations -/

namespace Sys2Proof.Machine

theorem mapAddr_eq_some {s : State} {a : ApIndex} {gen : Generation} {page : Nat} {x : MemAddr} :
    s.mapAddr a gen page = some x ↔ ∃ g m, (s.apertures.get a).life = .live g ∧ g.base = .mapped m ∧
      (s.apertures.get a).generation = gen ∧ page < g.pages ∧ entryAddrOf m page = x := by
  unfold State.mapAddr
  split
  · next h =>
    simp only [reduceCtorEq, false_iff, not_exists]
    rintro g m ⟨live, -⟩
    simp [liveGrant_eq_some.2 live] at h
  · next g hg =>
    rw [liveGrant_eq_some] at hg
    simp only [hg, ApLife.live.injEq]
    split
    · next hb => simp [hb]
    · next m hb => simp [hb, and_assoc]

theorem mapAddr_congr {s t : State} {a : ApIndex} (h : t.apertures.get a = s.apertures.get a) (gen : Generation) (page : Nat) :
    t.mapAddr a gen page = s.mapAddr a gen page := by simp [State.mapAddr, h]

theorem first_of_find {α : Type} {p : α → Bool} {l : List α} {x : α} (h : l.find? p = some x) :
    ∃ l₁ l₂, FirstOf p l l₁ x l₂ := by
  obtain ⟨hx, l₁, l₂, rfl, h₁⟩ := List.find?_eq_some_iff_append.1 h
  exact ⟨l₁, l₂, rfl, by simpa using h₁, hx⟩

theorem Walk.isFor_iff {a : ApIndex} {gen : Generation} {page : Nat} {w : Walk} :
    Walk.isFor a gen page w = true ↔ w.orphaned = false ∧ w.aperture = a ∧ w.generation = gen ∧ w.page = page := by
  simp [Walk.isFor, and_assoc]

theorem TcEntry.isFor_iff {a : ApIndex} {gen : Generation} {page : Nat} {e : TcEntry} :
    TcEntry.isFor a gen page e = true ↔ e.aperture = a ∧ e.generation = gen ∧ e.page = page := by
  simp [TcEntry.isFor, and_assoc]

/-! ### The parts of the law -/

/-- What is left of an orphaned walk. -/
def Walk.bare (w : Walk) : Prop := w.waiters = [] ∧ w.preload = none ∧ w.state ≠ .waitingTag

/-- A walk after a change that leaves the page of a live walk as it is and gives an orphaned one nothing. -/
def Walk.keepsPage (v w : Walk) : Prop :=
  (v.orphaned = false → w.orphaned = false ∧ v.aperture = w.aperture ∧ v.generation = w.generation ∧ v.page = w.page ∧
    v.entryAddr = w.entryAddr) ∧
  (v.orphaned = true → (w.orphaned = true → w.bare) → v.bare)

theorem Walk.keepsPage_refl (w : Walk) : w.keepsPage w := ⟨fun h => ⟨h, rfl, rfl, rfl, rfl⟩, fun h hw => hw h⟩

theorem Walk.later.keepsPage {v w : Walk} (h : v.later w) : v.keepsPage w := by
  obtain ⟨⟨ha, hg, hp, he⟩, sub, tag, ⟨ho, hpre⟩ | ⟨ho, bare⟩⟩ := h
  · refine ⟨fun hv => ⟨ho ▸ hv, ha, hg, hp, he⟩, fun hv hw => ?_⟩
    obtain ⟨nothing, none, issued⟩ := hw (ho ▸ hv)
    exact ⟨List.sublist_nil.1 (nothing ▸ sub), hpre.trans none, fun h => issued (tag h)⟩
  · exact ⟨fun hv => by simp [ho] at hv, fun _ _ => bare⟩

/-- Translations and walks that come from those of a sound state are sound while the pages they name stay mapped. -/
theorem TranslationLaw.of_parts {s t : State} (law : TranslationLaw s)
    (tc : (t.tc.map TcEntry.key).Subperm (s.tc.map TcEntry.key)) (walks : List.SublistForall₂ Walk.keepsPage t.walks s.walks)
    (mapped : ∀ a gen page, ((∃ e ∈ s.tc, e.aperture = a) ∨ ∃ w ∈ s.walks, w.orphaned = false ∧ w.aperture = a) →
      (s.mapAddr a gen page).isSome = true → t.mapAddr a gen page = s.mapAddr a gen page) : TranslationLaw t := by
  obtain ⟨cached, walked, orphans, onceCached, onceWalked, notBoth⟩ := law
  have tcOrigin : ∀ e ∈ t.tc, ∃ f ∈ s.tc, f.key = e.key := fun e he =>
    List.mem_map.1 (tc.subset (List.mem_map_of_mem he))
  have walkOrigin := origin_of_sublistForall₂ walks
  refine ⟨fun e he => ?_, fun v hv live => ?_, fun v hv ho => ?_, ?_, ?_, fun e he v hv live => ?_⟩
  · obtain ⟨f, hf, hk⟩ := tcOrigin e he
    simp only [TcEntry.key, Prod.mk.injEq] at hk
    obtain ⟨ha, hg, hp⟩ := hk
    rw [← ha, ← hg, ← hp, mapped _ _ _ (.inl ⟨f, hf, rfl⟩) (cached f hf)]
    exact cached f hf
  · obtain ⟨w, hw, page, -⟩ := walkOrigin v hv
    obtain ⟨liveW, ha, hg, hp, hx⟩ := page live
    have addr := walked w hw liveW
    rw [ha, hg, hp, hx, mapped _ _ _ (.inr ⟨w, hw, liveW, rfl⟩) (by simp [addr])]
    exact addr
  · obtain ⟨w, hw, -, bare⟩ := walkOrigin v hv
    exact bare ho (orphans w hw)
  · obtain ⟨l, perm, sub⟩ := tc
    have keys : (s.tc.map TcEntry.key).Pairwise fun k l => ¬(k.1 = l.1 ∧ k.2.2 = l.2.2) := List.pairwise_map.2 onceCached
    exact List.pairwise_map.1 ((perm.pairwise_iff fun h hkl => h ⟨hkl.1.symm, hkl.2.symm⟩).1 (keys.sublist sub))
  · refine pairwise_of_sublistForall₂ walks onceWalked ?_
    rintro w x v y ⟨pageV, -⟩ ⟨pageY, -⟩ hwx liveV liveY
    obtain ⟨liveW, ha, -, hp, -⟩ := pageV liveV
    obtain ⟨liveX, ha', -, hp', -⟩ := pageY liveY
    rw [ha, hp, ha', hp']
    exact hwx liveW liveX
  · obtain ⟨f, hf, hk⟩ := tcOrigin e he
    simp only [TcEntry.key, Prod.mk.injEq] at hk
    obtain ⟨ha, -, hp⟩ := hk
    obtain ⟨w, hw, page, -⟩ := walkOrigin v hv
    obtain ⟨liveW, ha', -, hp', -⟩ := page live
    rw [← ha, ← hp, ha', hp']
    exact notBoth f hf w hw liveW

theorem TranslationLaw.of_walks {s : State} (law : TranslationLaw s) {ws : List Walk}
    (walks : List.SublistForall₂ Walk.keepsPage ws s.walks) : TranslationLaw { s with walks := ws } :=
  law.of_parts (.refl _) walks fun _ _ _ _ _ => rfl

/-- A record changes that no translation and no live walk names before the change. -/
theorem TranslationLaw.of_aperture {s t : State} (law : TranslationLaw s) (tc : t.tc = s.tc) (walks : t.walks = s.walks)
    {a : ApIndex} (others : ∀ b, b ≠ a → t.apertures.get b = s.apertures.get b)
    (unnamed : (∀ e ∈ s.tc, e.aperture ≠ a) ∧ ∀ w ∈ s.walks, w.orphaned = false → w.aperture ≠ a) : TranslationLaw t := by
  refine law.of_parts (tc ▸ .refl _) (walks ▸ sublistForall₂_of_sublist Walk.keepsPage_refl (.refl _)) ?_
  intro b gen page named _
  refine mapAddr_congr (others b ?_) gen page
  rintro rfl
  rcases named with ⟨e, he, h⟩ | ⟨w, hw, live, h⟩
  · exact unnamed.1 e he h
  · exact unnamed.2 w hw live h

/-- An aperture that is not LIVE has no translations and no live walks. -/
theorem TranslationLaw.unnamed {s : State} (law : TranslationLaw s) {a : ApIndex}
    (notLive : ∀ g, (s.apertures.get a).life ≠ .live g) :
    (∀ e ∈ s.tc, e.aperture ≠ a) ∧ ∀ w ∈ s.walks, w.orphaned = false → w.aperture ≠ a := by
  obtain ⟨cached, walked, -⟩ := law
  constructor
  · rintro e he rfl
    obtain ⟨x, hx⟩ := Option.isSome_iff_exists.1 (cached e he)
    obtain ⟨g, m, live, -⟩ := mapAddr_eq_some.1 hx
    exact notLive g live
  · rintro w hw live rfl
    obtain ⟨g, m, live, -⟩ := mapAddr_eq_some.1 (walked w hw live)
    exact notLive g live

/-- A walk starts for a mapped page that nothing names. -/
theorem TranslationLaw.walkStarts {s : State} (law : TranslationLaw s) {a : ApIndex} {g : Grant} {m : MemAddr} {page : Nat}
    (live : (s.apertures.get a).life = .live g) (mapped : g.base = .mapped m) (inPages : page < g.pages)
    (uncached : ∀ e ∈ s.tc, TcEntry.isFor a (s.apertures.get a).generation page e = false)
    (unwalked : ∀ w ∈ s.walks, Walk.isFor a (s.apertures.get a).generation page w = false) :
    TranslationLaw { s with walks := s.walks ++ [newWalk a (s.apertures.get a).generation page m] } := by
  obtain ⟨cached, walked, orphans, onceCached, onceWalked, notBoth⟩ := law
  have current : ∀ {b gen p x}, s.mapAddr b gen p = some x → (s.apertures.get b).generation = gen := fun h => by
    obtain ⟨_, _, -, -, hg, -⟩ := mapAddr_eq_some.1 h
    exact hg
  have noEntry : ∀ e ∈ s.tc, ¬(e.aperture = a ∧ e.page = page) := by
    rintro e he ⟨rfl, rfl⟩
    obtain ⟨x, hx⟩ := Option.isSome_iff_exists.1 (cached e he)
    simpa [TcEntry.isFor, current hx] using uncached e he
  have noWalk : ∀ w ∈ s.walks, w.orphaned = false → ¬(w.aperture = a ∧ w.page = page) := by
    rintro w hw ho ⟨rfl, rfl⟩
    simpa [Walk.isFor, current (walked w hw ho), ho] using unwalked w hw
  refine ⟨cached, fun w hw ho => ?_, fun w hw ho => ?_, onceCached, ?_, fun e he w hw ho => ?_⟩
  · rcases List.mem_append.1 hw with hw | hw
    · exact walked w hw ho
    · obtain rfl := List.mem_singleton.1 hw
      exact mapAddr_eq_some.2 ⟨g, m, live, mapped, rfl, inPages, rfl⟩
  · rcases List.mem_append.1 hw with hw | hw
    · exact orphans w hw ho
    · obtain rfl := List.mem_singleton.1 hw
      simp [newWalk] at ho
  · refine List.pairwise_append.2 ⟨onceWalked, List.pairwise_singleton _ _, fun w hw v hv ho _ => ?_⟩
    obtain rfl := List.mem_singleton.1 hv
    exact noWalk w hw ho
  · rcases List.mem_append.1 hw with hw | hw
    · exact notBoth e he w hw ho
    · obtain rfl := List.mem_singleton.1 hw
      exact noEntry e he

/-- A live walk ends and its page is installed in its stead. -/
theorem TranslationLaw.installs {s : State} (law : TranslationLaw s) {l₁ l₂ : List Walk} {w : Walk} (split : s.walks = l₁ ++ w :: l₂)
    (live : w.orphaned = false) {e : TcEntry} (key : e.key = (w.aperture, w.generation, w.page)) {l : List TcEntry}
    (rest : l.Sublist s.tc) : TranslationLaw { s with tc := e :: l, walks := l₁ ++ l₂ } := by
  have removed : TranslationLaw { s with tc := l, walks := l₁ ++ l₂ } :=
    law.of_parts (rest.map _).subperm
      (sublistForall₂_of_sublist Walk.keepsPage_refl (split ▸ (List.Sublist.refl l₁).append (List.sublist_cons_self w l₂)))
      fun _ _ _ _ _ => rfl
  obtain ⟨-, walked, -, -, onceWalked, notBoth⟩ := law
  obtain ⟨cached, walked', orphans, onceCached, onceWalked', notBoth'⟩ := removed
  simp only [TcEntry.key, Prod.mk.injEq] at key
  obtain ⟨ha, hg, hp⟩ := key
  have hw : w ∈ s.walks := by simp [split]
  have addr := walked w hw live
  refine ⟨?_, walked', orphans, ?_, onceWalked', ?_⟩
  · rintro f (_ | ⟨_, hf⟩)
    · rw [ha, hg, hp]
      exact Option.isSome_iff_exists.2 ⟨_, addr⟩
    · exact cached f hf
  · refine List.pairwise_cons.2 ⟨fun f hf => ?_, onceCached⟩
    have := notBoth f (rest.subset hf) w hw live
    rw [ha, hp]
    exact fun h => this ⟨h.1.symm, h.2.symm⟩
  · rintro f (_ | ⟨_, hf⟩) v hv liveV
    · rw [split] at onceWalked
      obtain ⟨-, h₂, h₁⟩ := List.pairwise_append.1 onceWalked
      rw [ha, hp]
      rcases List.mem_append.1 hv with hv | hv
      · exact fun h => h₁ v hv w (by simp) liveV live ⟨h.1.symm, h.2.symm⟩
      · exact (List.pairwise_cons.1 h₂).1 v hv live liveV
    · exact notBoth' f hf v hv liveV

theorem translationLaw_reset : TranslationLaw State.reset := by
  simp [TranslationLaw, State.reset]

theorem Move.translationLaw {s t : State} (m : Move s t) (law : TranslationLaw s) : TranslationLaw t := by
  cases m with
  | reset => exact translationLaw_reset
  | grants a g free => exact law.of_aperture (a := a) rfl rfl (fun b h => by simp [h.symm]) (law.unnamed (by simp [free]))
  | cache tc keys =>
    exact law.of_parts keys (sublistForall₂_of_sublist Walk.keepsPage_refl (.refl _)) fun _ _ _ _ _ => rfl
  | walks ws later =>
    obtain ⟨l, hl, sub⟩ := List.sublistForall₂_iff.1 later
    exact law.of_walks (List.sublistForall₂_iff.2 ⟨l, hl.imp fun _ _ => Walk.later.keepsPage, sub⟩)
  | walkStarts a g m page live mapped inPages uncached unwalked => exact law.walkStarts live mapped inPages uncached unwalked
  | parks =>
    refine law.of_walks (sublistForall₂_updateFirst Walk.keepsPage_refl (fun w hw => ?_) _)
    have live := (Walk.isFor_iff.1 hw).1
    exact ⟨fun _ => ⟨live, rfl, rfl, rfl, rfl⟩, fun h => by simp [live] at h⟩
  | runs =>
    refine law.of_walks (sublistForall₂_updateFirst Walk.keepsPage_refl (fun w hw => ?_) _)
    have live := (Walk.isFor_iff.1 hw).1
    exact ⟨fun _ => ⟨live, rfl, rfl, rfl, rfl⟩, fun h => by simp [live] at h⟩
  | walkEnds t w tc o found live keys =>
    obtain ⟨l₁, l₂, split, h₁, hw⟩ := first_of_find found
    rw [endPreloadOf_frame, split, eraseP_split _ h₁ hw]
    rcases keys with rfl | ⟨e, l, rfl, key, rest⟩
    · exact law.of_walks
        (sublistForall₂_of_sublist Walk.keepsPage_refl (split ▸ (List.Sublist.refl l₁).append (List.sublist_cons_self w l₂)))
    · exact law.installs split live key rest
  | retires n words a g _ _ _ _ _ uncached unwalked =>
    refine law.of_aperture (a := a) rfl rfl (fun b h => by simp [h.symm]) ⟨uncached, fun w hw live h => ?_⟩
    simp [(unwalked w hw h).1] at live
  | retired n words a g _ _ _ _ retiring =>
    exact law.of_aperture (a := a) rfl rfl (fun b h => by simp [h.symm]) (law.unnamed (by simp [retiring]))
  | _ => exact law

end Sys2Proof.Machine

/-! ## Every move keeps the law of commands -/

namespace Sys2Proof.Machine

/-- What a slot's command is and concerns stands in word 0. -/
theorem slot_congr {sl sl' : Slot} (h : slotWord sl' 0 = slotWord sl 0) :
    slotCommand sl' = slotCommand sl ∧ slotTarget sl' = slotTarget sl ∧ slotAperture sl' = slotAperture sl ∧
      slotRequester sl' = slotRequester sl := by
  have command : slotCommand sl' = slotCommand sl := by unfold slotCommand; rw [h]
  have index : slotIndex sl' = slotIndex sl := by unfold slotIndex; rw [h]
  exact ⟨command, by unfold slotTarget; rw [command, index], by unfold slotAperture; rw [index], by unfold slotRequester; rw [index]⟩

theorem CommandLaw.mem_submission {s : State} (law : CommandLaw s) {n : SlotId} :
    n ∈ s.submission ↔ started (s.slots.get n).state := law.2.1 n

/-- Ahead of a slot that may be taken stands none of its target. -/
theorem State.takable.ahead {s : State} {n : SlotId} (take : s.takable n) (nodup : s.submission.Nodup) :
    s.submission.Pairwise fun m k => k = n → slotTarget (s.slots.get n) ≠ none →
      slotTarget (s.slots.get m) ≠ slotTarget (s.slots.get n) := by
  obtain ⟨-, l₁, l₂, hl, ahead⟩ := take
  rw [hl] at nodup ⊢
  obtain ⟨-, h₂, h₁₂⟩ := List.nodup_append.1 nodup
  have not₁ : ∀ m ∈ l₁, m ≠ n := fun m hm => h₁₂ m hm n (by simp)
  have not₂ : ∀ m ∈ l₂, m ≠ n := fun m hm h => (List.nodup_cons.1 h₂).1 (h ▸ hm)
  refine List.pairwise_append.2 ⟨?_, List.pairwise_cons.2 ⟨?_, ?_⟩, ?_⟩
  · exact List.pairwise_of_forall_mem_list fun _ _ k hk h => absurd h (not₁ k hk)
  · exact fun k hk h => absurd h (not₂ k hk)
  · exact List.pairwise_of_forall_mem_list fun _ _ k hk h => absurd h (not₂ k hk)
  · rintro m hm k (_ | ⟨_, hk⟩) h
    · exact ahead m hm
    · exact absurd h (not₂ k hk)

/-- While a slot of its target is RUNNING or WAITING no slot may be taken (R170). -/
theorem CommandLaw.pending_of_takable {s : State} (law : CommandLaw s) {n m : SlotId} (take : s.takable n)
    (target : slotTarget (s.slots.get n) ≠ none) (same : slotTarget (s.slots.get m) = slotTarget (s.slots.get n))
    (started : started (s.slots.get m).state) : (s.slots.get m).state = .pending := by
  by_cases h : m = n
  · exact h ▸ take.1
  have ahead := take.ahead law.1
  have members := @CommandLaw.mem_submission s law
  obtain ⟨-, -, order, -⟩ := law
  obtain ⟨hp, l₁, l₂, hl, -⟩ := take
  have hn : n ∈ s.submission := by simp [hl]
  rcases or_of_pairwise (order.and ahead) (members.2 started) hn h with ⟨-, h⟩ | ⟨h, -⟩
  · exact absurd same (h rfl target)
  · exact h target same.symm

/-! ### One slot changes -/

/-- A slot that may be taken starts to run or to wait. -/
theorem CommandLaw.takes {s t : State} (law : CommandLaw s) {n : SlotId} (take : s.takable n) {sl : Slot}
    (slots : t.slots = s.slots.set n.val sl n.isLt) (submission : t.submission = s.submission)
    (word : slotWord sl 0 = slotWord (s.slots.get n) 0) (state : sl.state = .running ∨ sl.state = .waiting)
    (status : sl.status = (s.slots.get n).status) (qualifier : sl.qualifier = (s.slots.get n).qualifier) : CommandLaw t := by
  have ahead := take.ahead law.1
  obtain ⟨nodup, members, order, reasons, timeouts⟩ := law
  have pending := take.1
  have other : ∀ m, m ≠ n → t.slots.get m = s.slots.get m := fun m hm => by rw [slots, vget_set_ne _ _ _ _ hm.symm]
  have self : t.slots.get n = sl := by rw [slots, vget_set_self]
  have target : ∀ m, slotTarget (t.slots.get m) = slotTarget (s.slots.get m) := fun m => by
    by_cases h : m = n
    · rw [h, self, (slot_congr word).2.1]
    · rw [other m h]
  refine ⟨submission ▸ nodup, fun m => ?_, ?_, fun m => ?_, fun m => ?_⟩
  · rw [submission, members m]
    by_cases h : m = n
    · rw [h, self]
      simp only [started, pending]
      tauto
    · rw [other m h]
  · rw [submission]
    refine (order.and ahead).imp fun {m k} h => ?_
    obtain ⟨order, ahead⟩ := h
    rw [target, target]
    intro some same
    by_cases hk : k = n
    · exact absurd (hk ▸ same) (ahead hk (hk ▸ same ▸ some))
    · rw [other k hk]
      exact order some same
  · by_cases h : m = n
    · rw [h, self, status, reasons n, pending]
      rcases state with h | h <;> simp [h]
    · rw [other m h]
      exact reasons m
  · by_cases h : m = n
    · rw [h, self, status, qualifier]
      exact timeouts n
    · rw [other m h]
      exact timeouts m

/-- A slot that is not on the submission list, or leaves it, ends or becomes FREE. -/
theorem CommandLaw.leaves {s t : State} (law : CommandLaw s) {n : SlotId} {sl : Slot}
    (slots : t.slots = s.slots.set n.val sl n.isLt) (submission : t.submission = s.submission.filter fun m => decide (m ≠ n))
    (state : ¬started sl.state) (status : sl.status = .none ↔ sl.state ≠ .failed)
    (qualifier : sl.qualifier = .timeout → sl.status = .walkError) : CommandLaw t := by
  obtain ⟨nodup, members, order, reasons, timeouts⟩ := law
  have other : ∀ m, m ≠ n → t.slots.get m = s.slots.get m := fun m hm => by rw [slots, vget_set_ne _ _ _ _ hm.symm]
  have self : t.slots.get n = sl := by rw [slots, vget_set_self]
  refine ⟨submission ▸ nodup.filter _, fun m => ?_, ?_, fun m => ?_, fun m => ?_⟩
  · rw [submission]
    by_cases h : m = n
    · simp [h, self, state]
    · rw [other m h]
      simpa [h] using members m
  · rw [submission]
    refine (order.filter _).imp_of_mem fun {m k} hm hk h => ?_
    rw [other m (by simpa using List.of_mem_filter hm), other k (by simpa using List.of_mem_filter hk)]
    exact h
  · by_cases h : m = n
    · rw [h, self]
      exact status
    · rw [other m h]
      exact reasons m
  · by_cases h : m = n
    · rw [h, self]
      exact qualifier
    · rw [other m h]
      exact timeouts m

/-- Words of a slot change that the submission list does not rest on. -/
theorem CommandLaw.words {s t : State} (law : CommandLaw s) {n : SlotId} {words : Vector Word 7}
    (slots : t.slots = s.slots.set n.val { s.slots.get n with words := words } n.isLt) (submission : t.submission = s.submission)
    (ready : (s.slots.get n).state = .free ∨ words.get 0 = slotWord (s.slots.get n) 0) : CommandLaw t := by
  obtain ⟨nodup, members, order, reasons, timeouts⟩ := law
  have other : ∀ m, m ≠ n → t.slots.get m = s.slots.get m := fun m hm => by rw [slots, vget_set_ne _ _ _ _ hm.symm]
  have self : t.slots.get n = { s.slots.get n with words := words } := by rw [slots, vget_set_self]
  have same : ∀ m, (t.slots.get m).state = (s.slots.get m).state ∧ (t.slots.get m).status = (s.slots.get m).status ∧
      (t.slots.get m).qualifier = (s.slots.get m).qualifier := fun m => by
    by_cases h : m = n
    · rw [h, self]; exact ⟨rfl, rfl, rfl⟩
    · rw [other m h]; exact ⟨rfl, rfl, rfl⟩
  have target : ∀ m ∈ s.submission, slotTarget (t.slots.get m) = slotTarget (s.slots.get m) := fun m hm => by
    by_cases h : m = n
    · subst h
      rcases ready with free | word
      · simp [members m, started, free] at hm
      · rw [self]; exact (slot_congr (sl' := { s.slots.get m with words := words }) word).2.1
    · rw [other m h]
  refine ⟨submission ▸ nodup, fun m => ?_, ?_, fun m => ?_, fun m => ?_⟩
  · rw [submission, (same m).1]; exact members m
  · rw [submission]
    refine order.imp_of_mem fun {m k} hm hk h => ?_
    rw [target m hm, target k hk, (same k).1]
    exact h
  · rw [(same m).1, (same m).2.1]; exact reasons m
  · rw [(same m).2.1, (same m).2.2]; exact timeouts m

/-- START puts a FREE slot behind all others. -/
theorem CommandLaw.starts {s : State} (law : CommandLaw s) {n : SlotId} (free : (s.slots.get n).state = .free) :
    CommandLaw { s.setSlotState n .pending with submission := s.submission ++ [n] } := by
  obtain ⟨nodup, members, order, reasons, timeouts⟩ := law
  have notIn : n ∉ s.submission := by simp [members n, started, free]
  have slot : ∀ m, (s.setSlotState n .pending).slots.get m =
      if n = m then { s.slots.get n with state := .pending } else s.slots.get m := fun m => setSlotState_slot s n m .pending
  have other : ∀ m ∈ s.submission, (s.setSlotState n .pending).slots.get m = s.slots.get m := fun m hm => by
    rw [slot, if_neg]
    rintro rfl
    exact notIn hm
  refine ⟨?_, fun m => ?_, ?_, fun m => ?_, fun m => ?_⟩
  · exact nodup.append (List.nodup_singleton n) (by simpa using notIn)
  · change m ∈ s.submission ++ [n] ↔ started ((s.setSlotState n .pending).slots.get m).state
    rw [slot, List.mem_append, members m]
    split
    · subst_vars; simp [started]
    · simp [Ne.symm ‹_›]
  · change (s.submission ++ [n]).Pairwise fun m k => slotTarget ((s.setSlotState n .pending).slots.get m) ≠ none →
      slotTarget ((s.setSlotState n .pending).slots.get m) = slotTarget ((s.setSlotState n .pending).slots.get k) →
      ((s.setSlotState n .pending).slots.get k).state = .pending
    refine List.pairwise_append.2 ⟨?_, List.pairwise_singleton _ _, fun m _ k hk => ?_⟩
    · refine order.imp_of_mem fun {m k} hm hk h => ?_
      rw [other m hm, other k hk]
      exact h
    · obtain rfl := List.mem_singleton.1 hk
      simp
  · change ((s.setSlotState n .pending).slots.get m).status = .none ↔ ((s.setSlotState n .pending).slots.get m).state ≠ .failed
    rw [slot]
    split
    · simpa [free] using reasons n
    · exact reasons m
  · change ((s.setSlotState n .pending).slots.get m).qualifier = .timeout → ((s.setSlotState n .pending).slots.get m).status = .walkError
    rw [slot]
    split
    · exact timeouts n
    · exact timeouts m

theorem commandLaw_reset : CommandLaw State.reset := by
  refine ⟨by simp [State.reset], fun n => ?_, by simp [State.reset], fun n => ?_, fun n => ?_⟩ <;>
    simp [State.reset, started]

theorem endsWith.status_iff {st : SlotState} {code : Status} {q : Qualifier} (h : endsWith st code q) :
    ¬started st ∧ (code = .none ↔ st ≠ .failed) ∧ (q = .timeout → code = .walkError) := by
  rcases h with ⟨rfl, rfl, rfl⟩ | ⟨rfl, hc, hq⟩
  · simp [started]
  · exact ⟨by simp [started], by simp [hc], hq⟩

theorem CommandLaw.ends {s t : State} (law : CommandLaw s) {n : SlotId} {words : Vector Word 7} {st : SlotState} {code : Status}
    {q : Qualifier} (h : endsWith st code q)
    (slots : t.slots = s.slots.set n.val { state := st, words := words, status := code, qualifier := q } n.isLt)
    (submission : t.submission = s.submission.filter fun m => decide (m ≠ n)) : CommandLaw t :=
  law.leaves slots submission h.status_iff.1 h.status_iff.2.1 h.status_iff.2.2

theorem endsWith_done : endsWith .done .none .error := .inl ⟨rfl, rfl, rfl⟩

/-- The end of a preload is one of a command. -/
theorem endPreload_cases (s : State) (n : SlotId) (o : PreloadEnd) :
    ((s.slots.get n).state = .running ∧ ∃ words st code q, endsWith st code q ∧ s.endPreload n o = s.withEnd n words st code q) ∨
      (s.slots.get n).state ≠ .running ∧ s.endPreload n o = s := by
  unfold State.endPreload
  split
  · left
    refine ⟨‹_›, ?_⟩
    cases o with
    | installed =>
      refine ⟨(s.slots.get n).wordsWith 5 2, .done, .none, .error, endsWith_done, ?_⟩
      simp [State.doneSlot, State.endSlot, State.withEnd, State.writeWord, State.setSlot, withWord, Slot.wordsWith]
    | pinLimit => exact ⟨_, .failed, .pinLimit, .error, .inr ⟨rfl, by simp, by simp⟩, rfl⟩
    | noPage => exact ⟨_, .failed, .noPage, .error, .inr ⟨rfl, by simp, by simp⟩, rfl⟩
    | walkError q => exact ⟨_, .failed, .walkError, q, .inr ⟨rfl, by simp, by simp⟩, rfl⟩
  · exact .inr ⟨‹_›, rfl⟩

theorem endPreloadOf_cases (s : State) (w : Walk) (o : PreloadEnd) :
    (∃ n pin, w.preload = some (n, pin) ∧ (s.slots.get n).state = .running ∧
      ∃ words st code q, endsWith st code q ∧ s.endPreloadOf w o = s.withEnd n words st code q) ∨
    (∀ n pin, w.preload = some (n, pin) → (s.slots.get n).state ≠ .running) ∧ s.endPreloadOf w o = s := by
  unfold State.endPreloadOf
  cases h : w.preload with
  | none => exact .inr ⟨by simp, rfl⟩
  | some np =>
    obtain ⟨n, pin⟩ := np
    rcases endPreload_cases s n o with ⟨running, ends⟩ | ⟨idle, same⟩
    · exact .inl ⟨n, pin, rfl, running, ends⟩
    · refine .inr ⟨?_, same⟩
      rintro m pin' ⟨⟩
      exact idle

theorem Move.commandLaw {s t : State} (m : Move s t) (law : CommandLaw s) : CommandLaw t := by
  cases m with
  | reset => exact commandLaw_reset
  | walkEnds t w tc o =>
    rcases endPreloadOf_cases { s with tc := tc, walks := s.walks.eraseP (Walk.holdsTag t) } w o with
      ⟨n, -, -, -, words, st, code, q, ends, h⟩ | ⟨-, h⟩
    · rw [h]; exact law.ends ends rfl rfl
    · rw [h]; exact law
  | slot n sl sub step =>
    cases step with
    | ends words st code q _ ends => exact law.ends ends rfl rfl
    | words words ready => exact law.words rfl rfl (ready.imp_right And.right)
    | starts free => exact law.starts free
    | frees done =>
      have off : n ∉ s.submission := by
        rw [law.mem_submission]
        simp only [ended, Bool.or_eq_true, decide_eq_true_eq] at done
        rcases done with h | h <;> simp [started, h]
      refine law.leaves (n := n) rfl (List.filter_eq_self.2 fun m hm => ?_).symm (by simp [started]) (by simp) (by simp)
      simp only [ne_eq, decide_eq_true_eq]
      rintro rfl
      exact off hm
    | waits words take word => exact law.takes take rfl rfl word (.inr rfl) rfl rfl
  | runs n a gen page take => exact law.takes take rfl rfl rfl (.inl rfl) rfl rfl
  | retires n words a g take word => exact law.takes take rfl rfl word (.inr rfl) rfl rfl
  | halts n r x take => exact law.takes take rfl rfl rfl (.inr rfl) rfl rfl
  | retired n words => exact law.ends endsWith_done rfl rfl
  | halted n words => exact law.ends endsWith_done rfl rfl
  | drained n words => exact law.ends endsWith_done rfl rfl
  | _ => exact law

end Sys2Proof.Machine

/-! ## Every move keeps the law of preloads -/

namespace Sys2Proof.Machine

theorem slotIndex_of_aperture {sl : Slot} {a : ApIndex} (h : slotAperture sl = some a) : (slotIndex sl).toNat = a.val := by
  unfold slotAperture at h
  split at h
  · exact congrArg Fin.val (Option.some.inj h)
  · simp at h

theorem slotIndex_of_requester {sl : Slot} {r : RequesterId} (h : slotRequester sl = some r) : (slotIndex sl).toNat = r.val := by
  unfold slotRequester at h
  split at h
  · exact congrArg Fin.val (Option.some.inj h)
  · simp at h

/-- While a command of an aperture may be taken, no other one of that aperture runs or waits. -/
theorem CommandLaw.pending_of_takesAperture {s : State} (law : CommandLaw s) {a : ApIndex} (takes : s.takesAperture a) {m : SlotId}
    (target : slotTarget (s.slots.get m) = some (.aperture (slotIndex (s.slots.get m))))
    (aperture : slotAperture (s.slots.get m) = some a) (running : started (s.slots.get m).state) :
    (s.slots.get m).state = .pending := by
  obtain ⟨n, take, target', aperture'⟩ := takes
  have index : slotIndex (s.slots.get m) = slotIndex (s.slots.get n) :=
    BitVec.eq_of_toNat_eq ((slotIndex_of_aperture aperture).trans (slotIndex_of_aperture aperture').symm)
  exact law.pending_of_takable take (by simp [target']) (by rw [target, target', index]) running

/-- While a command of a requester may be taken, no other one of that requester runs or waits. -/
theorem CommandLaw.pending_of_takesRequester {s : State} (law : CommandLaw s) {r : RequesterId} (takes : s.takesRequester r)
    {m : SlotId} (target : slotTarget (s.slots.get m) = some (.requester (slotIndex (s.slots.get m))))
    (isRequester : slotRequester (s.slots.get m) = some r) (running : started (s.slots.get m).state) :
    (s.slots.get m).state = .pending := by
  obtain ⟨n, take, target', isRequester'⟩ := takes
  have index : slotIndex (s.slots.get m) = slotIndex (s.slots.get n) :=
    BitVec.eq_of_toNat_eq ((slotIndex_of_requester isRequester).trans (slotIndex_of_requester isRequester').symm)
  exact law.pending_of_takable take (by simp [target']) (by rw [target, target', index]) running

theorem slotTarget_tcPreload {sl : Slot} (h : slotCommand sl = some .tcPreload) :
    slotTarget sl = some (.aperture (slotIndex sl)) := by simp [slotTarget, h]

/-- A TC_PRELOAD that may be taken finds no preload waiter on its aperture's walks, nor does a revocation (R170). -/
theorem PreloadLaw.preload_of_takesAperture {s : State} (law : PreloadLaw s) (commands : CommandLaw s) {a : ApIndex}
    (takes : s.takesAperture a) {w : Walk} (hw : w ∈ s.walks) (ha : w.aperture = a) : w.preload = none := by
  cases h : w.preload with
  | none => rfl
  | some np =>
    obtain ⟨running, command, aperture, -⟩ := law.1 w hw np.1 np.2 h
    have := commands.pending_of_takesAperture takes (slotTarget_tcPreload command) (ha ▸ aperture) (.inr (.inl running))
    simp [running] at this

/-! ### The parts of the law -/

/-- Two walks carry different preload waiters, or one of them none. -/
def Walk.otherPreload (w v : Walk) : Prop := ∀ n pin pin', w.preload = some (n, pin) → v.preload ≠ some (n, pin')

/-- A walk after a change that keeps its preload waiter or takes it away. -/
def Walk.keepsPreload (v w : Walk) : Prop := v.preload = none ∨ v.preload = w.preload ∧ v.aperture = w.aperture ∧ v.page = w.page

theorem Walk.keepsPreload_refl (w : Walk) : w.keepsPreload w := .inr ⟨rfl, rfl, rfl⟩

theorem Walk.later.keepsPreload {v w : Walk} (h : v.later w) : v.keepsPreload w := by
  obtain ⟨⟨ha, -, hp, -⟩, -, -, ⟨-, h⟩ | ⟨-, -, h, -⟩⟩ := h
  · exact .inr ⟨h, ha, hp⟩
  · exact .inl h

theorem otherPreload_of_sublistForall₂ {ws l : List Walk} (h : List.SublistForall₂ Walk.keepsPreload ws l)
    (hl : l.Pairwise Walk.otherPreload) : ws.Pairwise Walk.otherPreload := by
  refine pairwise_of_sublistForall₂ h hl ?_
  rintro w v w' v' (hw | ⟨hw, -⟩) (hv | ⟨hv, -⟩) other n pin pin' <;> simp only [hw, hv]
  · simp
  · simp
  · simp
  · exact other n pin pin'

/-- Slots and walks whose preloads come from those of a sound state are sound when every preload that still runs keeps its walk. -/
theorem PreloadLaw.of_parts {s t : State} (law : PreloadLaw s)
    (slots : ∀ n, (s.slots.get n).state = .running ∨ (t.slots.get n).state = .running → t.slots.get n = s.slots.get n ∨
      (t.slots.get n).state ≠ .running ∧ ∀ v ∈ t.walks, ∀ pin, v.preload ≠ some (n, pin))
    (origin : ∀ v ∈ t.walks, v.preload = none ∨ ∃ w ∈ s.walks, v.keepsPreload w) (other : t.walks.Pairwise Walk.otherPreload)
    (kept : ∀ w ∈ s.walks, ∀ n pin, w.preload = some (n, pin) → (t.slots.get n).state = .running →
      ∃ v ∈ t.walks, v.preload = some (n, pin)) : PreloadLaw t := by
  obtain ⟨carried, -, carriers⟩ := law
  refine ⟨fun v hv n pin hpre => ?_, other, fun n running => ?_⟩
  · obtain ⟨w, hw, none | ⟨same, ha, hp⟩⟩ := (origin v hv).resolve_left (by simp [hpre])
    · simp [hpre] at none
    · have carry := carried w hw n pin (same ▸ hpre)
      rcases slots n (.inl carry.1) with hn | ⟨-, no⟩
      · rw [hn, ha, hp]
        exact carry
      · exact absurd hpre (no v hv pin)
  · rcases slots n (.inr running) with hn | ⟨idle, -⟩
    · obtain ⟨w, hw, pin, hpre⟩ := carriers n (hn ▸ running)
      obtain ⟨v, hv, hpre⟩ := kept w hw n pin hpre running
      exact ⟨v, hv, pin, hpre⟩
    · exact absurd running idle

/-- Slots that do not run change, and nothing else. -/
theorem PreloadLaw.of_slots {s t : State} (law : PreloadLaw s) (walks : t.walks = s.walks)
    (slots : ∀ n, t.slots.get n = s.slots.get n ∨ (s.slots.get n).state ≠ .running ∧ (t.slots.get n).state ≠ .running) :
    PreloadLaw t := by
  refine law.of_parts (fun n running => .inl ((slots n).resolve_right fun h => ?_)) (fun v hv => ?_) (walks ▸ law.2.1)
    fun w hw n pin h _ => ⟨w, walks ▸ hw, h⟩
  · exact running.elim h.1 h.2
  · exact .inr ⟨v, walks ▸ hv, v.keepsPreload_refl⟩

/-- One slot that does not run changes into another that does not. -/
theorem PreloadLaw.of_slot {s t : State} (law : PreloadLaw s) {n : SlotId} {sl : Slot} (walks : t.walks = s.walks)
    (slots : t.slots = s.slots.set n.val sl n.isLt) (idle : (s.slots.get n).state ≠ .running) (idle' : sl.state ≠ .running) :
    PreloadLaw t := by
  refine law.of_slots walks fun m => ?_
  rw [slots, vget_set]
  split
  · subst_vars; exact .inr ⟨idle, idle'⟩
  · exact .inl rfl

/-- A step of a slot begins and ends no preload, unless no walk carries it. -/
theorem SlotStep.idle {s : State} {n : SlotId} {sl : Slot} {sub : List SlotId} (step : SlotStep s n sl sub) :
    (s.slots.get n).state ≠ .running ∧ sl.state ≠ .running ∨
      (s.slots.get n).state = .running ∧ ∀ w ∈ s.walks, ∀ pin, w.preload ≠ some (n, pin) := by
  cases step with
  | ends words st code q ready ends =>
    rcases ready with pending | running
    · exact .inl ⟨by simp [pending], fun h => ends.status_iff.1 (.inr (.inl h))⟩
    · exact .inr running
  | words words ready =>
    have idle : (s.slots.get n).state ≠ .running := by rcases ready with h | ⟨h, -⟩ <;> simp [h]
    exact .inl ⟨idle, idle⟩
  | starts free => exact .inl ⟨by simp [free], by simp⟩
  | frees done => exact .inl ⟨fun h => by simp [ended, h] at done, by simp⟩
  | waits words take => exact .inl ⟨by simp [take.1], by simp⟩

theorem preloadLaw_reset : PreloadLaw State.reset := by
  simp [PreloadLaw, State.reset]

/-- Walks change or end that carry no preload waiter any longer. -/
theorem PreloadLaw.of_walks {s : State} (law : PreloadLaw s) {ws : List Walk}
    (walks : List.SublistForall₂ Walk.keepsPreload ws s.walks)
    (kept : ∀ w ∈ s.walks, w.preload ≠ none → ∃ v ∈ ws, v.preload = w.preload) : PreloadLaw { s with walks := ws } :=
  law.of_parts (fun _ _ => .inl rfl) (fun v hv => .inr (origin_of_sublistForall₂ walks v hv))
    (otherPreload_of_sublistForall₂ walks law.2.1) fun w hw _ _ h _ => h ▸ kept w hw (by simp [h])

/-- The end of a walk ends its preload. -/
theorem PreloadLaw.walkEnds {s : State} (law : PreloadLaw s) {l₁ l₂ : List Walk} {w : Walk} (split : s.walks = l₁ ++ w :: l₂)
    (tc : List TcEntry) (o : PreloadEnd) : PreloadLaw ({ s with tc := tc, walks := l₁ ++ l₂ }.endPreloadOf w o) := by
  have hw : w ∈ s.walks := by simp [split]
  have sub : (l₁ ++ l₂).Sublist s.walks := split ▸ (List.Sublist.refl l₁).append (List.sublist_cons_self w l₂)
  have stay : ∀ v ∈ s.walks, v.preload ≠ w.preload → v ∈ l₁ ++ l₂ := fun v hv hne => by
    rw [split] at hv
    have : v ≠ w := fun h => hne (h ▸ rfl)
    simpa [this] using hv
  have origin : ∀ v ∈ l₁ ++ l₂, v.preload = none ∨ ∃ w ∈ s.walks, v.keepsPreload w := fun v hv =>
    .inr ⟨v, sub.subset hv, v.keepsPreload_refl⟩
  obtain ⟨n, pin, hpre, running, words, st, code, q, ends, h⟩ | ⟨idle, h⟩ :=
    endPreloadOf_cases { s with tc := tc, walks := l₁ ++ l₂ } w o <;> rw [h]
  · have alone : ∀ v ∈ l₁ ++ l₂, ∀ pin', v.preload ≠ some (n, pin') := by
      obtain ⟨-, other, -⟩ := law
      rw [split] at other
      obtain ⟨-, h₂, h₁⟩ := List.pairwise_append.1 other
      intro v hv pin' hv'
      rcases List.mem_append.1 hv with hv | hv
      · exact h₁ v hv w (by simp) n pin' pin hv' hpre
      · exact (List.pairwise_cons.1 h₂).1 v hv n pin pin' hpre hv'
    have notRunning : st ≠ .running := fun h => ends.status_iff.1 (.inr (.inl h))
    have slot := fun m => withEnd_slot { s with tc := tc, walks := l₁ ++ l₂ } n m words st code q
    refine law.of_parts (fun m _ => ?_) origin (law.2.1.sublist sub) fun v hv m pin' hv' run => ?_
    · rw [slot]
      split
      · subst_vars; exact .inr ⟨notRunning, alone⟩
      · exact .inl rfl
    · refine ⟨v, stay v hv fun heq => ?_, hv'⟩
      have hm : n = m := by simp [hv', hpre] at heq; exact heq.1.symm
      rw [slot, if_pos hm] at run
      exact notRunning run
  · have none : w.preload = none := by
      cases h : w.preload with
      | none => rfl
      | some np => exact absurd (law.1 w hw np.1 np.2 h).1 (idle np.1 np.2 h)
    exact law.of_parts (fun _ _ => .inl rfl) origin (law.2.1.sublist sub) fun v hv m pin' hv' _ =>
      ⟨v, stay v hv (by simp [none, hv']), hv'⟩

/-- A TC_PRELOAD becomes the waiter of its page's walk, which carried none. -/
theorem PreloadLaw.runs {s : State} (law : PreloadLaw s) (commands : CommandLaw s) {n : SlotId} {a : ApIndex} {gen : Generation}
    {page : Nat} (take : s.takable n) (command : slotCommand (s.slots.get n) = some .tcPreload)
    (aperture : slotAperture (s.slots.get n) = some a) (isPage : (slotWord (s.slots.get n) 1).toNat = page) {l₁ l₂ : List Walk}
    {w : Walk} (split : s.walks = l₁ ++ w :: l₂) (isFor : Walk.isFor a gen page w = true) :
    PreloadLaw ({ s with walks := l₁ ++ { w with preload := some (n, slotFlag (s.slots.get n)) } :: l₂ }.setSlotState n
      .running) := by
  obtain ⟨-, ha, -, hp⟩ := Walk.isFor_iff.1 isFor
  have hw : w ∈ s.walks := by simp [split]
  have none : w.preload = none :=
    law.preload_of_takesAperture commands ⟨n, take, slotTarget_tcPreload command, aperture⟩ hw ha
  obtain ⟨carried, other, carriers⟩ := law
  have rest : ∀ v, v ∈ l₁ ∨ v ∈ l₂ → v ∈ s.walks := fun v hv => by rw [split]; simp; tauto
  have new : ∀ v, v ∈ l₁ ∨ v ∈ l₂ → ∀ pin, v.preload ≠ some (n, pin) := fun v hv pin h => by
    have := (carried v (rest v hv) n pin h).1
    simp [take.1] at this
  have slot := fun m => setSlotState_slot
    { s with walks := l₁ ++ { w with preload := some (n, slotFlag (s.slots.get n)) } :: l₂ } n m .running
  rw [split] at other
  obtain ⟨p₁, p₂, p₁₂⟩ := List.pairwise_append.1 other
  obtain ⟨-, p₂⟩ := List.pairwise_cons.1 p₂
  refine ⟨fun v hv m pin hpre => ?_, ?_, fun m running => ?_⟩
  · rw [slot]
    have hv' : v = { w with preload := some (n, slotFlag (s.slots.get n)) } ∨ v ∈ l₁ ∨ v ∈ l₂ := by
      simp at hv
      tauto
    rcases hv' with rfl | hv'
    · obtain ⟨rfl, rfl⟩ : n = m ∧ slotFlag (s.slots.get n) = pin := by simpa using hpre
      rw [if_pos rfl]
      exact ⟨rfl, command, ha ▸ aperture, isPage.trans hp.symm, rfl⟩
    · rw [if_neg]
      · exact carried v (rest v hv') m pin hpre
      · rintro rfl
        exact new v hv' pin hpre
  · refine List.pairwise_append.2 ⟨p₁, List.pairwise_cons.2 ⟨fun v hv m pin pin' h h' => ?_, p₂⟩, fun v hv u hu m pin pin' h h' => ?_⟩
    · obtain ⟨rfl, -⟩ : n = m ∧ _ := by simpa using h
      exact new v (.inr hv) pin' h'
    · rcases List.mem_cons.1 hu with rfl | hu
      · obtain ⟨rfl, -⟩ : n = m ∧ _ := by simpa using h'
        exact new v (.inl hv) pin h
      · exact p₁₂ v hv u (by simp [hu]) m pin pin' h h'
  · by_cases h : n = m
    · exact ⟨_, List.mem_append_right _ (List.mem_cons_self ..), slotFlag (s.slots.get n), by rw [← h]⟩
    · rw [slot, if_neg h] at running
      obtain ⟨v, hv, pin, hpre⟩ := carriers m running
      have : v ≠ w := fun h => by simp [h, none] at hpre
      rw [split] at hv
      refine ⟨v, ?_, pin, hpre⟩
      simp [this] at hv
      simp
      tauto

theorem Move.preloadLaw {s t : State} (m : Move s t) (translations : TranslationLaw s) (commands : CommandLaw s)
    (law : PreloadLaw s) : PreloadLaw t := by
  cases m with
  | reset => exact preloadLaw_reset
  | walks ws later preloads =>
    obtain ⟨l, hl, sub⟩ := List.sublistForall₂_iff.1 later
    refine law.of_walks (List.sublistForall₂_iff.2 ⟨l, hl.imp fun _ _ => Walk.later.keepsPreload, sub⟩) fun w hw some => ?_
    have live : w.orphaned = false := by
      by_contra h
      exact some (translations.2.2.1 w hw (by simpa using h)).2.1
    exact (preloads w hw live).resolve_right fun takes => some (law.preload_of_takesAperture commands takes hw rfl)
  | walkStarts =>
    refine law.of_parts (fun _ _ => .inl rfl) (fun v hv => ?_) ?_ fun w hw _ pin h _ => ⟨w, List.mem_append_left _ hw, h⟩
    · rcases List.mem_append.1 hv with hv | hv
      · exact .inr ⟨v, hv, v.keepsPreload_refl⟩
      · exact .inl (by rw [List.mem_singleton.1 hv]; rfl)
    · refine List.pairwise_append.2 ⟨law.2.1, List.pairwise_singleton _ _, fun w _ v hv n pin pin' _ => ?_⟩
      rw [List.mem_singleton.1 hv]
      simp [newWalk]
  | parks a g gen page q =>
    refine law.of_walks ?_ fun w hw _ => ?_
    · exact sublistForall₂_updateFirst Walk.keepsPreload_refl (fun w _ => by exact .inr ⟨rfl, rfl, rfl⟩) _
    · refine List.mem_map.1 ?_
      rw [map_updateFirst]
      · exact List.mem_map_of_mem hw
      · exact fun _ => rfl
  | walkEnds t w tc o found =>
    obtain ⟨l₁, l₂, split, h₁, hw⟩ := first_of_find found
    rw [split, eraseP_split _ h₁ hw]
    exact law.walkEnds split tc o
  | slot n sl sub step =>
    rcases step.idle with ⟨idle, idle'⟩ | ⟨running, no⟩
    · exact law.of_slot rfl rfl idle idle'
    · obtain ⟨w, hw, pin, h⟩ := law.2.2 n running
      exact absurd h (no w hw pin)
  | runs n a gen page take command aperture isPage walked =>
    obtain ⟨l₁, w, l₂, split, h₁, isFor⟩ := (split_at_first (Walk.isFor a gen page) s.walks).resolve_left fun h => by
      simp only [List.any_eq_true] at walked
      obtain ⟨w, hw, h'⟩ := walked
      simp [h w hw] at h'
    rw [split, updateFirst_split _ _ h₁ isFor]
    exact law.runs commands take command aperture isPage split isFor
  | retires n words a g take => exact law.of_slot (n := n) rfl rfl (by simp [take.1]) (by simp)
  | halts n r x take => exact law.of_slot (n := n) rfl rfl (by simp [take.1]) (by simp)
  | retired n words a g waiting => exact law.of_slot (n := n) rfl rfl (by simp [waiting]) (by simp)
  | halted n words r waiting => exact law.of_slot (n := n) rfl rfl (by simp [waiting]) (by simp)
  | drained n words waiting => exact law.of_slot (n := n) rfl rfl (by simp [waiting]) (by simp)
  | _ => exact law

end Sys2Proof.Machine

/-! ## Every move keeps the laws of retirements and halts

AP_RETIRE drains an aperture and REQ_HALT a requester in the same way, so the law is stated and kept once, for any drain. -/

namespace Sys2Proof.Machine

/-- A command that drains the entries of a record: which entries those are, and which records are being drained or are gone. -/
structure Drain (K : Type) where
  command : Command
  key : Slot → Option K
  ofWrite : PostedWrite → K
  ofRead : ReadEntry → K
  draining : State → K → Prop
  gone : State → K → Prop
  /-- The record stands in word 0 of the slot. -/
  key_congr : ∀ {sl sl' : Slot}, slotWord sl' 0 = slotWord sl 0 → key sl' = key sl
  ofWrite_later : ∀ {e' e : PostedWrite}, e'.later e → ofWrite e' = ofWrite e
  ofRead_later : ∀ {d' d : ReadEntry}, d'.later d → ofRead d' = ofRead d

/-- AP_RETIRE drains a RETIRING aperture, which is FREE afterwards (R141, R143). -/
def retireDrain : Drain ApIndex where
  command := .apRetire
  key := slotAperture
  ofWrite := PostedWrite.aperture
  ofRead := ReadEntry.aperture
  draining s a := ∃ g, (s.apertures.get a).life = .retiring g
  gone s a := (s.apertures.get a).life = .free
  key_congr h := (slot_congr h).2.2.1
  ofWrite_later h := h.2.1
  ofRead_later h := h.2.1

/-- REQ_HALT drains a HALTING requester, which is HALTED afterwards (R42, R43). -/
def haltDrain : Drain RequesterId where
  command := .reqHalt
  key := slotRequester
  ofWrite := PostedWrite.requester
  ofRead := ReadEntry.requester
  draining s r := (s.requesters.get r).state = .halting
  gone s r := (s.requesters.get r).state = .halted
  key_congr h := (slot_congr h).2.2.2
  ofWrite_later h := h.1
  ofRead_later h := h.1

section Drain

variable {K : Type} (D : Drain K)

/-- A slot waits with the draining command. -/
def Drain.serving (sl : Slot) : Prop := sl.state = .waiting ∧ slotCommand sl = some D.command

/-- Every entry of a record bears a slot's mark. -/
def Drain.marked (s : State) (n : SlotId) (k : K) : Prop :=
  (∀ e ∈ s.pwq, D.ofWrite e = k → e.marks.get n = true) ∧ (∀ d ∈ s.rdt, D.ofRead d = k → d.marks.get n = true)

/-- No entry of a record that is gone is left; a record that drains has a waiting command whose mark its entries bear; each
waiting command drains a record; and a record has one at most. -/
structure Drain.Sound (s : State) : Prop where
  empty : ∀ k, D.gone s k → (∀ e ∈ s.pwq, D.ofWrite e ≠ k) ∧ (∀ d ∈ s.rdt, D.ofRead d ≠ k)
  served : ∀ k, D.draining s k → ∃ n, D.serving (s.slots.get n) ∧ D.key (s.slots.get n) = some k ∧ D.marked s n k
  serves : ∀ n, D.serving (s.slots.get n) → ∃ k, D.key (s.slots.get n) = some k ∧ D.draining s k
  unique : ∀ m n k, D.serving (s.slots.get m) → D.key (s.slots.get m) = some k → D.serving (s.slots.get n) →
    D.key (s.slots.get n) = some k → m = n

/-- A slot after a change that leaves it out of the drain or leaves its command as it was. -/
def Drain.keepsSlot (sl' sl : Slot) : Prop :=
  sl' = sl ∨ ¬D.serving sl ∧ ¬D.serving sl' ∨ sl.state = .waiting ∧ sl'.state = .waiting ∧ slotWord sl' 0 = slotWord sl 0

variable {D}

theorem Drain.keepsSlot.serving_iff {sl' sl : Slot} (h : D.keepsSlot sl' sl) :
    (D.serving sl' ↔ D.serving sl) ∧ (D.serving sl → D.key sl' = D.key sl) := by
  rcases h with rfl | ⟨h, h'⟩ | ⟨h, h', word⟩
  · exact ⟨.rfl, fun _ => rfl⟩
  · exact ⟨iff_of_false h' h, fun hs => absurd hs h⟩
  · simp [Drain.serving, h, h', (slot_congr word).1, D.key_congr word]

/-- Slots keep their drains, entries keep their records and marks, and no record begins or ends to drain. -/
theorem Drain.Sound.of_parts {s t : State} (law : D.Sound s)
    (slots : ∀ n, D.keepsSlot (t.slots.get n) (s.slots.get n))
    (writes : ∀ e ∈ t.pwq, (∃ e₀ ∈ s.pwq, e.later e₀) ∨ ¬D.gone s (D.ofWrite e) ∧ ¬D.draining s (D.ofWrite e))
    (reads : ∀ d ∈ t.rdt, (∃ d₀ ∈ s.rdt, d.later d₀) ∨ ¬D.gone s (D.ofRead d) ∧ ¬D.draining s (D.ofRead d))
    (gone : ∀ k, D.gone t k → D.gone s k) (draining : ∀ k, D.draining t k ↔ D.draining s k) : D.Sound t where
  empty k hk := by
    obtain ⟨noWrite, noRead⟩ := law.empty k (gone k hk)
    refine ⟨fun e he h => ?_, fun d hd h => ?_⟩
    · rcases writes e he with ⟨e₀, he₀, later⟩ | ⟨hg, -⟩
      · exact noWrite e₀ he₀ (D.ofWrite_later later ▸ h)
      · exact hg (h ▸ gone k hk)
    · rcases reads d hd with ⟨d₀, hd₀, later⟩ | ⟨hg, -⟩
      · exact noRead d₀ hd₀ (D.ofRead_later later ▸ h)
      · exact hg (h ▸ gone k hk)
  served k hk := by
    obtain ⟨n, serving, key, markedWrites, markedReads⟩ := law.served k ((draining k).1 hk)
    obtain ⟨serving_iff, key_eq⟩ := (slots n).serving_iff
    refine ⟨n, serving_iff.2 serving, (key_eq serving).trans key, fun e he h => ?_, fun d hd h => ?_⟩
    · rcases writes e he with ⟨e₀, he₀, later⟩ | ⟨-, hd⟩
      · exact later.2.2 n (markedWrites e₀ he₀ (D.ofWrite_later later ▸ h))
      · exact absurd ((draining k).1 hk) (h ▸ hd)
    · rcases reads d hd with ⟨d₀, hd₀, later⟩ | ⟨-, hd⟩
      · exact later.2.2 n (markedReads d₀ hd₀ (D.ofRead_later later ▸ h))
      · exact absurd ((draining k).1 hk) (h ▸ hd)
  serves n hn := by
    obtain ⟨serving_iff, key_eq⟩ := (slots n).serving_iff
    obtain ⟨k, key, hk⟩ := law.serves n (serving_iff.1 hn)
    exact ⟨k, (key_eq (serving_iff.1 hn)).trans key, (draining k).2 hk⟩
  unique m n k hm km hn kn := by
    obtain ⟨im, em⟩ := (slots m).serving_iff
    obtain ⟨iN, eN⟩ := (slots n).serving_iff
    exact law.unique m n k (im.1 hm) (em (im.1 hm) ▸ km) (iN.1 hn) (eN (iN.1 hn) ▸ kn)

/-- One slot changes. -/
theorem Drain.Sound.of_slot {s t : State} (law : D.Sound s) {n : SlotId} {sl : Slot} (slots : t.slots = s.slots.set n.val sl n.isLt)
    (kept : D.keepsSlot sl (s.slots.get n)) (entries : t.pwq = s.pwq ∧ t.rdt = s.rdt)
    (gone : ∀ k, D.gone t k → D.gone s k) (draining : ∀ k, D.draining t k ↔ D.draining s k) : D.Sound t := by
  refine law.of_parts (fun m => ?_) (fun e he => .inl ⟨e, entries.1 ▸ he, rfl, rfl, fun _ h => h⟩)
    (fun d hd => .inl ⟨d, entries.2 ▸ hd, rfl, rfl, fun _ h => h⟩) gone draining
  rw [slots, vget_set]
  split
  · subst_vars; exact kept
  · exact .inl rfl

/-- A command that may be taken, whose mark all entries of its record bear, begins to wait. -/
theorem Drain.Sound.begins {s t : State} (law : D.Sound s) {n : SlotId} {sl : Slot} {k : K}
    (slots : t.slots = s.slots.set n.val sl n.isLt) (pending : (s.slots.get n).state = .pending) (serving : D.serving sl)
    (key : D.key sl = some k) (entries : t.pwq = s.pwq ∧ t.rdt = s.rdt) (marked : D.marked s n k) (idle : ¬D.draining s k)
    (gone : ∀ j, D.gone t j → D.gone s j) (draining : ∀ j, D.draining t j ↔ j = k ∨ D.draining s j) : D.Sound t := by
  have slot : ∀ m, t.slots.get m = if n = m then sl else s.slots.get m := fun m => by rw [slots, vget_set]
  have ne : ∀ {m}, D.serving (s.slots.get m) → n ≠ m := fun {m} h heq => by
    subst heq
    simp [Drain.serving, pending] at h
  have self : t.slots.get n = sl := by rw [slot, if_pos rfl]
  obtain ⟨hp, hr⟩ := entries
  have markedIff : ∀ m j, D.marked t m j ↔ D.marked s m j := fun m j => by rw [Drain.marked, hp, hr]; rfl
  refine ⟨fun j hj => ?_, fun j hj => ?_, fun m hm => ?_, fun m m' j hm jm hm' jm' => ?_⟩
  · rw [hp, hr]
    exact law.empty j (gone j hj)
  · rcases (draining j).1 hj with rfl | hj
    · exact ⟨n, self ▸ serving, self ▸ key, (markedIff n j).2 marked⟩
    · obtain ⟨m, servingM, keyM, markedM⟩ := law.served j hj
      exact ⟨m, by rwa [slot, if_neg (ne servingM)], by rwa [slot, if_neg (ne servingM)], (markedIff m j).2 markedM⟩
  · by_cases h : n = m
    · rw [← h, self]
      exact ⟨k, key, (draining k).2 (.inl rfl)⟩
    · rw [slot, if_neg h] at hm ⊢
      obtain ⟨j, hj, dj⟩ := law.serves m hm
      exact ⟨j, hj, (draining j).2 (.inr dj)⟩
  · have foreign : ∀ i, n ≠ i → D.serving (s.slots.get i) → D.key (s.slots.get i) ≠ some k := fun i _ hi hk => by
      obtain ⟨j, hj, dj⟩ := law.serves i hi
      exact idle (Option.some.inj (hj.symm.trans hk) ▸ dj)
    by_cases h : n = m <;> by_cases h' : n = m' <;> rw [slot] at hm jm hm' jm'
    · exact h.symm.trans h'
    · rw [if_pos h] at jm
      rw [if_neg h'] at hm' jm'
      exact absurd (jm'.trans (jm.symm.trans key)) (foreign m' h' hm')
    · rw [if_pos h'] at jm'
      rw [if_neg h] at hm jm
      exact absurd (jm.trans (jm'.symm.trans key)) (foreign m h hm)
    · rw [if_neg h] at hm jm
      rw [if_neg h'] at hm' jm'
      exact law.unique m m' j hm jm hm' jm'

/-- A command whose mark no entry bears ends, and its record is gone. -/
theorem Drain.Sound.finishes {s t : State} (law : D.Sound s) {n : SlotId} {sl : Slot} {k : K}
    (slots : t.slots = s.slots.set n.val sl n.isLt) (serving : D.serving (s.slots.get n)) (key : D.key (s.slots.get n) = some k)
    (done : sl.state ≠ .waiting) (drained : s.bears n = false) (entries : t.pwq = s.pwq ∧ t.rdt = s.rdt)
    (gone : ∀ j, D.gone t j → j = k ∨ D.gone s j) (draining : ∀ j, D.draining t j ↔ D.draining s j ∧ j ≠ k) : D.Sound t := by
  have slot : ∀ m, t.slots.get m = if n = m then sl else s.slots.get m := fun m => by rw [slots, vget_set]
  have ne : ∀ {m}, D.serving (t.slots.get m) → n ≠ m := fun {m} h heq => by
    rw [slot, if_pos heq] at h
    exact done h.1
  obtain ⟨hp, hr⟩ := entries
  obtain ⟨noWrite, noRead⟩ : (∀ e ∈ s.pwq, e.marks.get n = false) ∧ ∀ d ∈ s.rdt, d.marks.get n = false := by
    simpa [State.bears] using drained
  have last : D.marked s n k := by
    obtain ⟨j, hj, dj⟩ := law.serves n serving
    obtain rfl : j = k := Option.some.inj (hj.symm.trans key)
    obtain ⟨m, servingM, keyM, markedM⟩ := law.served j dj
    exact law.unique m n j servingM keyM serving key ▸ markedM
  refine ⟨fun j hj => ?_, fun j hj => ?_, fun m hm => ?_, fun m m' j hm jm hm' jm' => ?_⟩
  · rw [hp, hr]
    rcases gone j hj with rfl | hj
    · exact ⟨fun e he h => absurd (last.1 e he h) (by simp [noWrite e he]),
        fun d hd h => absurd (last.2 d hd h) (by simp [noRead d hd])⟩
    · exact law.empty j hj
  · obtain ⟨dj, hjk⟩ := (draining j).1 hj
    obtain ⟨m, servingM, keyM, markedM⟩ := law.served j dj
    have hnm : n ≠ m := fun h => hjk (Option.some.inj (keyM.symm.trans (h ▸ key)))
    refine ⟨m, by rwa [slot, if_neg hnm], by rwa [slot, if_neg hnm], ?_⟩
    rw [Drain.marked, hp, hr]
    exact markedM
  · have hnm := ne hm
    rw [slot, if_neg hnm] at hm ⊢
    obtain ⟨j, hj, dj⟩ := law.serves m hm
    exact ⟨j, hj, (draining j).2 ⟨dj, fun h => hnm (law.unique n m k serving key hm (h ▸ hj))⟩⟩
  · have h := ne hm
    have h' := ne hm'
    rw [slot, if_neg h] at hm jm
    rw [slot, if_neg h'] at hm' jm'
    exact law.unique m m' j hm jm hm' jm'

end Drain

end Sys2Proof.Machine

namespace Sys2Proof.Machine

/-! ### The two laws -/

theorem retireLaw_iff {s : State} : RetireLaw s ↔ retireDrain.Sound s := by
  constructor
  · rintro ⟨empty, served, serves, unique⟩
    refine ⟨empty, ?_, ?_, ?_⟩
    · rintro a ⟨g, hg⟩
      obtain ⟨n, ⟨waiting, command, key⟩, marked⟩ := served a g hg
      exact ⟨n, ⟨waiting, command⟩, key, marked⟩
    · rintro n ⟨waiting, command⟩
      obtain ⟨a, g, key, hg⟩ := serves n waiting command
      exact ⟨a, key, g, hg⟩
    · exact fun m n a hm km hn kn => unique m n a ⟨hm.1, hm.2, km⟩ ⟨hn.1, hn.2, kn⟩
  · rintro ⟨empty, served, serves, unique⟩
    refine ⟨empty, ?_, ?_, ?_⟩
    · intro a g hg
      obtain ⟨n, ⟨waiting, command⟩, key, marked⟩ := served a ⟨g, hg⟩
      exact ⟨n, ⟨waiting, command, key⟩, marked⟩
    · intro n waiting command
      obtain ⟨a, key, g, hg⟩ := serves n ⟨waiting, command⟩
      exact ⟨a, g, key, hg⟩
    · exact fun m n a ⟨wm, cm, km⟩ ⟨wn, cn, kn⟩ => unique m n a ⟨wm, cm⟩ km ⟨wn, cn⟩ kn

theorem haltLaw_iff {s : State} (parked : ParkedLaw s) : HaltLaw s ↔ haltDrain.Sound s := by
  constructor
  · rintro ⟨empty, served, serves, unique⟩
    refine ⟨fun r hr => ⟨(empty r hr).1, (empty r hr).2.1⟩, ?_, ?_, ?_⟩
    · intro r hr
      obtain ⟨n, ⟨waiting, command, key⟩, marked⟩ := served r hr
      exact ⟨n, ⟨waiting, command⟩, key, marked⟩
    · exact fun n hn => serves n hn.1 hn.2
    · exact fun m n a hm km hn kn => unique m n a ⟨hm.1, hm.2, km⟩ ⟨hn.1, hn.2, kn⟩
  · rintro ⟨empty, served, serves, unique⟩
    refine ⟨fun r hr => ⟨(empty r hr).1, (empty r hr).2, ?_⟩, ?_, ?_, ?_⟩
    · refine List.flatMap_eq_nil_iff.2 fun w hw => List.filter_eq_nil_iff.2 fun p hp h => ?_
      have enabled := parked w hw p hp
      have halted : (s.requesters.get r).state = .halted := hr
      simp [of_decide_eq_true h, halted] at enabled
    · intro r hr
      obtain ⟨n, ⟨waiting, command⟩, key, marked⟩ := served r hr
      exact ⟨n, ⟨waiting, command, key⟩, marked⟩
    · exact fun n waiting command => serves n ⟨waiting, command⟩
    · exact fun m n a ⟨wm, cm, km⟩ ⟨wn, cn, kn⟩ => unique m n a ⟨wm, cm⟩ km ⟨wn, cn⟩ kn

/-! ### The moves -/

section Drain

variable {K : Type} {D : Drain K}

/-- A slot that neither waits before nor after, or whose command is another. -/
theorem Drain.keepsSlot_of_out {sl' sl : Slot} (out : sl.state ≠ .waiting ∨ slotCommand sl ≠ some D.command)
    (out' : sl'.state ≠ .waiting ∨ slotCommand sl' ≠ some D.command) : D.keepsSlot sl' sl :=
  .inr (.inl ⟨fun h => out.elim (fun o => o h.1) fun o => o h.2, fun h => out'.elim (fun o => o h.1) fun o => o h.2⟩)

theorem SlotStep.keepsSlot {s : State} {n : SlotId} {sl : Slot} {sub : List SlotId} (step : SlotStep s n sl sub)
    (drains : D.command = .apRetire ∨ D.command = .reqHalt) : D.keepsSlot sl (s.slots.get n) := by
  cases step with
  | ends words st code q ready ends =>
    refine Drain.keepsSlot_of_out (.inl ?_) (.inl fun h => ends.status_iff.1 (.inr (.inr h)))
    rcases ready with h | ⟨h, -⟩ <;> simp [h]
  | words words ready =>
    rcases ready with free | ⟨waiting, word⟩
    · exact Drain.keepsSlot_of_out (.inl (by simp [free])) (.inl (by simp [free]))
    · exact .inr (.inr ⟨waiting, waiting, word⟩)
  | starts free => exact Drain.keepsSlot_of_out (.inl (by simp [free])) (.inl (by simp))
  | frees done => exact Drain.keepsSlot_of_out (.inl fun h => by simp [ended, h] at done) (.inl (by simp))
  | waits words take word command =>
    have other : slotCommand (s.slots.get n) ≠ some D.command := by
      rcases drains with h | h <;> rw [h]
      · exact command.1
      · exact command.2
    refine Drain.keepsSlot_of_out (.inr other) (.inr ?_)
    rwa [(slot_congr (sl' := { s.slots.get n with state := .waiting, words := words }) word).1]

/-- The end of a walk ends at most a RUNNING command. -/
theorem endPreloadOf_keepsSlot (s : State) (w : Walk) (o : PreloadEnd) (n : SlotId) :
    D.keepsSlot ((s.endPreloadOf w o).slots.get n) (s.slots.get n) := by
  rcases endPreloadOf_cases s w o with ⟨m, -, -, running, words, st, code, q, ends, h⟩ | ⟨-, h⟩ <;> rw [h]
  · rw [withEnd_slot]
    split
    · subst_vars
      exact Drain.keepsSlot_of_out (.inl (by simp [running])) (.inl fun h => ends.status_iff.1 (.inr (.inr h)))
    · exact .inl rfl
  · exact .inl rfl

theorem Drain.Sound.of_same_entries {s t : State} (law : D.Sound s) (slots : ∀ n, D.keepsSlot (t.slots.get n) (s.slots.get n))
    (entries : t.pwq = s.pwq ∧ t.rdt = s.rdt) (gone : ∀ k, D.gone t k → D.gone s k)
    (draining : ∀ k, D.draining t k ↔ D.draining s k) : D.Sound t :=
  law.of_parts slots (fun e he => .inl ⟨e, entries.1 ▸ he, rfl, rfl, fun _ h => h⟩)
    (fun d hd => .inl ⟨d, entries.2 ▸ hd, rfl, rfl, fun _ h => h⟩) gone draining

end Drain

theorem TranslationLaw.live_of_admits {s : State} (law : TranslationLaw s) {r : RequesterId} {a : ApIndex} (h : s.admits r a) :
    ∃ g, (s.apertures.get a).life = .live g := by
  obtain ⟨-, live | ⟨w, hw, some, rfl⟩⟩ := h
  · exact live
  · obtain ⟨-, walked, orphans, -⟩ := law
    have live : w.orphaned = false := by
      by_contra h
      exact some (orphans w hw (by simpa using h)).1
    obtain ⟨g, -, hg, -⟩ := mapAddr_eq_some.1 (walked w hw live)
    exact ⟨g, hg⟩

theorem ParkedLaw.enabled_of_admits {s : State} (law : ParkedLaw s) {r : RequesterId} {a : ApIndex} (h : s.admits r a) :
    (s.requesters.get r).state = .enabled := by
  obtain ⟨enabled | ⟨w, hw, p, hp, rfl⟩, -⟩ := h
  · exact enabled
  · exact law w hw p hp

theorem retireLaw_reset : RetireLaw State.reset := by
  simp [RetireLaw, State.retires, State.reset]

theorem haltLaw_reset : HaltLaw State.reset := by
  simp [HaltLaw, State.halts, State.reset, State.parkedOf]

theorem Move.retireLaw {s t : State} (m : Move s t) (translations : TranslationLaw s) (law : RetireLaw s) : RetireLaw t := by
  have sound := retireLaw_iff.1 law
  cases m with
  | reset => exact retireLaw_reset
  | grants a g free =>
    refine retireLaw_iff.2 (sound.of_same_entries (fun _ => .inl rfl) ⟨rfl, rfl⟩ (fun b hb => ?_) fun b => ?_)
    · by_cases h : a = b
      · exact h ▸ free
      · simpa [retireDrain, h] using hb
    · by_cases h : a = b
      · simp [retireDrain, ← h, free]
      · simp [retireDrain, h]
  | entries pwq rdt writes reads =>
    have live : ∀ r a, s.admits r a → ¬retireDrain.gone s a ∧ ¬retireDrain.draining s a := fun r a h => by
      obtain ⟨g, hg⟩ := translations.live_of_admits h
      simp [retireDrain, hg]
    exact retireLaw_iff.2 (sound.of_parts (fun _ => .inl rfl) (fun e he => (writes e he).imp_right (live _ _))
      (fun d hd => (reads d hd).imp_right (live _ _)) (fun _ h => h) fun _ => .rfl)
  | walkEnds t w tc o =>
    refine retireLaw_iff.2 (sound.of_same_entries (endPreloadOf_keepsSlot _ w o) ?_ ?_ ?_) <;> rw [endPreloadOf_frame]
    · exact ⟨rfl, rfl⟩
    · exact fun _ h => h
    · exact fun _ => .rfl
  | slot n sl sub step =>
    exact retireLaw_iff.2 (sound.of_slot rfl (step.keepsSlot (.inl rfl)) ⟨rfl, rfl⟩ (fun _ h => h) fun _ => .rfl)
  | runs n a gen page take =>
    exact retireLaw_iff.2 (sound.of_slot (n := n) rfl (Drain.keepsSlot_of_out (.inl (by simp [take.1])) (.inl (by simp)))
      ⟨rfl, rfl⟩ (fun _ h => h) fun _ => .rfl)
  | retires n words a g take word command aperture live _ _ writes reads =>
    obtain ⟨command', -, aperture', -⟩ := slot_congr (sl' := { s.slots.get n with state := .waiting, words := words }) word
    refine retireLaw_iff.2 (sound.begins (n := n) (k := a) rfl take.1 ⟨rfl, command'.trans command⟩ (aperture'.trans aperture)
      ⟨rfl, rfl⟩ ⟨writes, reads⟩ (by simp [retireDrain, live]) (fun b hb => ?_) fun b => ?_)
    · by_cases h : a = b
      · simp [retireDrain, ← h] at hb
      · simpa [retireDrain, h] using hb
    · by_cases h : a = b
      · simp [retireDrain, ← h]
      · simp [retireDrain, h, Ne.symm h]
  | halts n r x take command =>
    exact retireLaw_iff.2 (sound.of_slot (n := n) rfl (Drain.keepsSlot_of_out (.inl (by simp [take.1]))
      (.inr fun h => absurd (command.symm.trans h) (by simp [retireDrain]))) ⟨rfl, rfl⟩ (fun _ h => h) fun _ => .rfl)
  | retired n words a g waiting drained command aperture retiring =>
    refine retireLaw_iff.2 (sound.finishes (n := n) (k := a) rfl ⟨waiting, command⟩ aperture (by simp) drained ⟨rfl, rfl⟩
      (fun b hb => ?_) fun b => ?_)
    · by_cases h : a = b
      · exact .inl h.symm
      · exact .inr (by simpa [retireDrain, h] using hb)
    · by_cases h : a = b
      · simp [retireDrain, ← h]
      · simp [retireDrain, h, Ne.symm h]
  | halted n words r waiting drained command =>
    exact retireLaw_iff.2 (sound.of_slot (n := n) rfl (Drain.keepsSlot_of_out (.inr (by simp [retireDrain, command])) (.inl (by simp)))
      ⟨rfl, rfl⟩ (fun _ h => h) fun _ => .rfl)
  | drained n words waiting drained noRetire =>
    have other : slotCommand (s.slots.get n) ≠ some .apRetire := fun command => by
      obtain ⟨a, aperture, g, retiring⟩ := sound.serves n ⟨waiting, command⟩
      exact noRetire command a g aperture retiring
    exact retireLaw_iff.2 (sound.of_slot (n := n) rfl (Drain.keepsSlot_of_out (.inr other) (.inl (by simp)))
      ⟨rfl, rfl⟩ (fun _ h => h) fun _ => .rfl)
  | _ => exact law

theorem Move.haltLaw {s t : State} (m : Move s t) (commands : CommandLaw s) (parked : ParkedLaw s) (law : HaltLaw s) :
    HaltLaw t := by
  have sound := (haltLaw_iff parked).1 law
  refine (haltLaw_iff (m.parkedLaw parked)).2 ?_
  cases m with
  | reset => exact (haltLaw_iff (by simp [ParkedLaw, State.reset])).1 haltLaw_reset
  | requester r x may =>
    have draining : (s.requesters.get r).state ≠ .halting ∨ x.state = (s.requesters.get r).state := by
      rcases may with h | ⟨-, -, takes⟩
      · exact .inr h
      · refine .inl fun halting => ?_
        obtain ⟨n, ⟨waiting, command⟩, key, -⟩ := sound.served r halting
        have := commands.pending_of_takesRequester (takes halting) (by simp [slotTarget, show _ = some Command.reqHalt from command]) key
          (.inr (.inr waiting))
        simp [waiting] at this
    refine sound.of_same_entries (fun _ => .inl rfl) ⟨rfl, rfl⟩ (fun b hb => ?_) fun b => ?_
    · by_cases h : r = b
      · subst h
        have hb : x.state = .halted := by simpa [haltDrain] using hb
        rcases may with h | ⟨⟨-, h⟩, -⟩
        · exact h.symm.trans hb
        · exact absurd hb h
      · simpa [haltDrain, h] using hb
    · by_cases h : r = b
      · subst h
        simp only [haltDrain, State.setRequester_get, if_true]
        rcases may with h | ⟨⟨h, -⟩, -⟩
        · rw [h]
        · exact iff_of_false h fun hh => by rcases draining with d | d <;> simp_all
      · simp [haltDrain, h]
  | entries pwq rdt writes reads =>
    have enabled : ∀ r a, s.admits r a → ¬haltDrain.gone s r ∧ ¬haltDrain.draining s r := fun r a h => by
      simp [haltDrain, parked.enabled_of_admits h]
    exact sound.of_parts (fun _ => .inl rfl) (fun e he => (writes e he).imp_right (enabled _ _))
      (fun d hd => (reads d hd).imp_right (enabled _ _)) (fun _ h => h) fun _ => .rfl
  | walkEnds t w tc o =>
    refine sound.of_same_entries (endPreloadOf_keepsSlot _ w o) ?_ ?_ ?_ <;> rw [endPreloadOf_frame]
    · exact ⟨rfl, rfl⟩
    · exact fun _ h => h
    · exact fun _ => .rfl
  | slot n sl sub step =>
    exact sound.of_slot rfl (step.keepsSlot (.inr rfl)) ⟨rfl, rfl⟩ (fun _ h => h) fun _ => .rfl
  | runs n a gen page take =>
    exact sound.of_slot (n := n) rfl (Drain.keepsSlot_of_out (.inl (by simp [take.1])) (.inl (by simp)))
      ⟨rfl, rfl⟩ (fun _ h => h) fun _ => .rfl
  | halts n r x take command key state halting writes reads =>
    refine sound.begins (n := n) (k := r) rfl take.1 ⟨rfl, command⟩ key
      ⟨rfl, rfl⟩ ⟨writes, reads⟩ ?_ (fun b hb => ?_) fun b => ?_
    · rcases state with ⟨h, -⟩ | h <;> simp [haltDrain, h]
    · by_cases h : r = b
      · simp [haltDrain, ← h, halting] at hb
      · simpa [haltDrain, h] using hb
    · by_cases h : r = b
      · simp [haltDrain, ← h, halting]
      · simp [haltDrain, h, Ne.symm h]
  | retires n words a g take word command =>
    have command' := (slot_congr (sl' := { s.slots.get n with state := .waiting, words := words }) word).1
    exact sound.of_slot (n := n) rfl (Drain.keepsSlot_of_out (.inl (by simp [take.1]))
      (.inr (by rw [command', command]; simp [haltDrain]))) ⟨rfl, rfl⟩ (fun _ h => h) fun _ => .rfl
  | halted n words r waiting drained command key halting =>
    refine sound.finishes (n := n) (k := r) rfl ⟨waiting, command⟩ key (by simp) drained ⟨rfl, rfl⟩
      (fun b hb => ?_) fun b => ?_
    · by_cases h : r = b
      · exact .inl h.symm
      · exact .inr (by simpa [haltDrain, h] using hb)
    · by_cases h : r = b
      · simp [haltDrain, ← h]
      · simp [haltDrain, h, Ne.symm h]
  | retired n words a g waiting drained command =>
    exact sound.of_slot (n := n) rfl (Drain.keepsSlot_of_out (.inr (by simp [haltDrain, command])) (.inl (by simp)))
      ⟨rfl, rfl⟩ (fun _ h => h) fun _ => .rfl
  | drained n words waiting drained _ noHalt =>
    have other : slotCommand (s.slots.get n) ≠ some .reqHalt := fun command => by
      obtain ⟨r, key, halting⟩ := sound.serves n ⟨waiting, command⟩
      exact noHalt command r key halting
    exact sound.of_slot (n := n) rfl (Drain.keepsSlot_of_out (.inr other) (.inl (by simp)))
      ⟨rfl, rfl⟩ (fun _ h => h) fun _ => .rfl
  | _ => exact sound.of_same_entries (fun _ => .inl rfl) ⟨rfl, rfl⟩ (fun _ h => h) fun _ => .rfl

end Sys2Proof.Machine

/-! ## Every command is a chain of moves: the shared operations -/

namespace Sys2Proof.Machine

/-! ### Chains -/

/-- The records that the laws above speak of. -/
def State.core (s : State) : Vector Aperture 64 × Vector (List ApIndex) 16 × Vector Requester 16 × List TcEntry × List Walk ×
    List PostedWrite × List ReadEntry × Vector Slot 8 × List SlotId :=
  (s.apertures, s.views, s.requesters, s.tc, s.walks, s.pwq, s.rdt, s.slots, s.submission)

theorem core_ext {s t : State} (apertures : t.apertures = s.apertures) (views : t.views = s.views)
    (requesters : t.requesters = s.requesters) (tc : t.tc = s.tc) (walks : t.walks = s.walks) (pwq : t.pwq = s.pwq)
    (rdt : t.rdt = s.rdt) (slots : t.slots = s.slots) (submission : t.submission = s.submission) : t.core = s.core := by
  simp only [State.core, *]

theorem Moves.move {s t u : State} (h : Moves s t) (m : Move t u) : Moves s u := h.tail m

theorem Moves.here (s : State) : Moves s s := .refl

theorem eq_withQuiet {s t : State} (same : t.core = s.core) : t = s.withQuiet t := by
  simp only [State.core, Prod.mk.injEq] at same
  obtain ⟨h₁, h₂, h₃, h₄, h₅, h₆, h₇, h₈, h₉⟩ := same
  simp [State.withQuiet, ← h₁, ← h₂, ← h₃, ← h₄, ← h₅, ← h₆, ← h₇, ← h₈, ← h₉]

theorem Moves.quiet {s t u : State} (h : Moves s t) (same : u.core = t.core) : Moves s u :=
  h.move (eq_withQuiet same ▸ .quiet t u)

theorem moves_of_core {s u : State} (same : u.core = s.core) : Moves s u := (Moves.here s).quiet same

/-- Walks that have lost waiters or got a port tag, and no preload waiter. -/
def walksNarrow (ws l : List Walk) : Prop :=
  List.SublistForall₂ Walk.later ws l ∧ ∀ w ∈ l, ∃ v ∈ ws, v.preload = w.preload

theorem Walk.later_refl (w : Walk) : w.later w := ⟨⟨rfl, rfl, rfl, rfl⟩, .refl _, id, .inl ⟨rfl, rfl⟩⟩

theorem walksNarrow_refl (l : List Walk) : walksNarrow l l :=
  ⟨sublistForall₂_of_sublist Walk.later_refl (.refl l), fun w hw => ⟨w, hw, rfl⟩⟩

theorem walksNarrow_map {f : Walk → List Request} {l : List Walk} (h : ∀ w, (f w).Sublist w.waiters) :
    walksNarrow (l.map fun (w : Walk) => { w with waiters := f w }) l :=
  ⟨sublistForall₂_map fun w _ => ⟨⟨rfl, rfl, rfl, rfl⟩, h w, id, .inl ⟨rfl, rfl⟩⟩, fun _ hw => ⟨_, List.mem_map_of_mem hw, rfl⟩⟩

theorem walksNarrow_replace {l₁ l₂ : List Walk} {v w : Walk} (later : v.later w) (preload : v.preload = w.preload) :
    walksNarrow (l₁ ++ v :: l₂) (l₁ ++ w :: l₂) := by
  constructor
  · induction l₁ with
    | nil => exact .cons later (sublistForall₂_of_sublist Walk.later_refl (.refl l₂))
    | cons x xs ih => exact .cons x.later_refl ih
  · intro x hx
    rcases List.mem_append.1 hx with hx | hx
    · exact ⟨x, by simp [hx], rfl⟩
    · rcases List.mem_cons.1 hx with rfl | hx
      · exact ⟨v, by simp, preload⟩
      · exact ⟨x, by simp [hx], rfl⟩

theorem Moves.narrow {s t : State} (h : Moves s t) {ws : List Walk} (narrow : walksNarrow ws t.walks) :
    Moves s { t with walks := ws } :=
  h.move (.walks t ws narrow.1 fun w hw _ => .inl (narrow.2 w hw))

/-- A walk's oldest waiter leaves. -/
theorem walksNarrow_pop {t : PortTagId} {l : List Walk} {w : Walk} {p : Request} {ps : List Request}
    (found : l.find? (Walk.holdsTag t) = some w) (waiters : w.waiters = p :: ps) :
    walksNarrow (updateFirst (Walk.holdsTag t) (fun (w : Walk) => { w with waiters := ps }) l) l := by
  obtain ⟨l₁, l₂, rfl, h₁, hw⟩ := first_of_find found
  rw [updateFirst_split _ _ h₁ hw]
  refine walksNarrow_replace ⟨⟨rfl, rfl, rfl, rfl⟩, ?_, id, .inl ⟨rfl, rfl⟩⟩ rfl
  rw [waiters]
  exact List.sublist_cons_self p ps

/-! ### Faults and entries -/

theorem noneParked_released (s : State) (r : RequesterId) :
    State.noneParked { s with walks := s.walks.map fun (w : Walk) =>
      { w with waiters := w.waiters.filter fun p => decide (p.requester ≠ r) } } r := by
  intro v hv p hp
  obtain ⟨w, -, rfl⟩ := List.mem_map.1 hv
  simpa using List.of_mem_filter hp

theorem Moves.released {s t : State} (h : Moves s t) (r : RequesterId) :
    Moves s { t with walks := t.walks.map fun (w : Walk) =>
      { w with waiters := w.waiters.filter fun p => decide (p.requester ≠ r) } } :=
  h.narrow (walksNarrow_map fun _ => List.filter_sublist)

/-- A release changes the walks and what is sent. -/
theorem release_eq (s : State) (r : RequesterId) (x : LinkReply) :
    ∃ tags out, s.release r x = { s with
      walks := s.walks.map fun (w : Walk) => { w with waiters := w.waiters.filter fun p => decide (p.requester ≠ r) }
      linkTags := tags
      linkOut := out } := ⟨_, _, release_frame s r x⟩

/-- A requester takes a state in which nothing of it is parked. -/
theorem Moves.releaseInto {s t : State} (h : Moves s t) (r : RequesterId) {x : Requester} (y : LinkReply)
    (notHalt : x.state ≠ .halting ∧ x.state ≠ .halted) (takes : (t.requesters.get r).state = .halting → t.takesRequester r) :
    Moves s ((t.setRequester r x).release r y) := by
  obtain ⟨tags, out, e⟩ := release_eq (t.setRequester r x) r y
  rw [e]
  exact ((h.released r).move (.requester _ r x (.inr ⟨notHalt, .inr (.inr (noneParked_released t r)), takes⟩))).quiet rfl

theorem Moves.capture {s t : State} (h : Moves s t) (r : RequesterId) (f : FaultRecord) : Moves s (t.capture r f) := by
  by_cases stops : (t.requesters.get r).stops
  · rw [capture_stopping t r f stops]
    exact h.releaseInto r _ ⟨by simp, by simp⟩ fun h => by simp [stops.1] at h
  · rw [capture_counting t r f stops]
    exact h.move (.requester t r _ (.inl (recordFault_state ..)))

/-- The capacity check of a request that may enter, where walks have lost waiters before. -/
theorem enter_moves {s : State} {ws : List Walk} {a : ApIndex} {ord : ReadOrder} {m : MemAddr} {q : Request}
    (admits : s.admits q.requester a) (narrow : walksNarrow ws s.walks) :
    Moves s (State.enter { s with walks := ws } a ord m q) := by
  have writes : ∀ e ∈ s.pwq, (∃ e₀ ∈ s.pwq, e.later e₀) ∨ s.admits e.requester e.aperture := fun e he =>
    .inl ⟨e, he, rfl, rfl, fun _ h => h⟩
  have reads : ∀ d ∈ s.rdt, (∃ d₀ ∈ s.rdt, d.later d₀) ∨ s.admits d.requester d.aperture := fun d hd =>
    .inl ⟨d, hd, rfl, rfl, fun _ h => h⟩
  obtain ⟨en, data, -, -, h⟩ | ⟨-, -, h⟩ | ⟨-, h⟩ | ⟨-, h⟩ := enter_cases { s with walks := ws } a ord m q <;> rw [h]
  · refine (((Moves.here s).move (.entries s (s.pwq ++ [newWrite s.nextSeq a m q en data]) s.rdt
      (fun e he => ?_) reads)).narrow narrow).quiet rfl
    rcases List.mem_append.1 he with he | he
    · exact writes e he
    · rw [List.mem_singleton.1 he]
      exact .inr admits
  · refine (((Moves.here s).move (.entries s s.pwq
      (s.rdt ++ [newRead s.nextSeq a ord m q (s.holdingWrites ord q.requester m)]) writes fun d hd => ?_)).narrow narrow).quiet rfl
    rcases List.mem_append.1 hd with hd | hd
    · exact reads d hd
    · rw [List.mem_singleton.1 hd]
      exact .inr admits
  · exact ((Moves.here s).narrow narrow).quiet rfl
  · exact ((Moves.here s).narrow narrow).quiet rfl

/-! ### Marks -/

theorem Moves.mark {s t : State} (h : Moves s t) (n : SlotId) (pw : PostedWrite → Bool) (pr : ReadEntry → Bool) :
    Moves s (t.mark n pw pr) := by
  refine h.move (.entries t _ _ (fun e he => .inl ?_) fun d hd => .inl ?_)
  · obtain ⟨e₀, he₀, rfl⟩ := List.mem_map.1 he
    refine ⟨e₀, he₀, ?_⟩
    split
    · exact ⟨rfl, rfl, fun m hm => by simp [hm]⟩
    · exact ⟨rfl, rfl, fun _ h => h⟩
  · obtain ⟨d₀, hd₀, rfl⟩ := List.mem_map.1 hd
    refine ⟨d₀, hd₀, ?_⟩
    split
    · exact ⟨rfl, rfl, fun m hm => by simp [hm]⟩
    · exact ⟨rfl, rfl, fun _ h => h⟩

theorem mark_writes {s : State} {n : SlotId} {pw : PostedWrite → Bool} {pr : ReadEntry → Bool} {P : PostedWrite → Prop}
    (scope : ∀ e marks, P { e with marks := marks } → pw e = true) :
    ∀ e ∈ (s.mark n pw pr).pwq, P e → e.marks.get n = true := by
  intro e he hP
  obtain ⟨e₀, -, rfl⟩ := List.mem_map.1 he
  split at hP
  · simp [*]
  · exact absurd (scope e₀ e₀.marks hP) ‹_›

theorem mark_reads {s : State} {n : SlotId} {pw : PostedWrite → Bool} {pr : ReadEntry → Bool} {P : ReadEntry → Prop}
    (scope : ∀ d marks, P { d with marks := marks } → pr d = true) :
    ∀ d ∈ (s.mark n pw pr).rdt, P d → d.marks.get n = true := by
  intro d hd hP
  obtain ⟨d₀, -, rfl⟩ := List.mem_map.1 hd
  split at hP
  · simp [*]
  · exact absurd (scope d₀ d₀.marks hP) ‹_›

/-! ### Slots -/

theorem Moves.slot {s t : State} (h : Moves s t) {n : SlotId} {sl : Slot} {sub : List SlotId} (step : SlotStep t n sl sub) :
    Moves s { t with slots := t.slots.set n.val sl n.isLt, submission := sub } := h.move (.slot t n sl sub step)

theorem doneSlot_setSlot (s : State) (n : SlotId) (sl : Slot) : (s.setSlot n sl).doneSlot n = s.withDone n sl.words := by
  simp [State.doneSlot, State.endSlot, State.withDone, State.withEnd, State.setSlot]

theorem withDone_setSlot (s : State) (n : SlotId) (sl : Slot) (words : Vector Word 7) :
    (s.setSlot n sl).withDone n words = s.withDone n words := by
  simp [State.withDone, State.withEnd, State.setSlot]

theorem failSlot_eq (s : State) (n : SlotId) (code : Status) : s.failSlot n code = s.withFailed n code := rfl

theorem Moves.failSlot {s t : State} (h : Moves s t) {n : SlotId} (pending : (t.slots.get n).state = .pending) {code : Status}
    (reason : code ≠ .none) : Moves s (t.failSlot n code) :=
  h.slot (.ends (t.slots.get n).words .failed code .error (.inl pending) (.inr ⟨rfl, reason, by simp⟩))

theorem Moves.withDone {s t : State} (h : Moves s t) {n : SlotId} (pending : (t.slots.get n).state = .pending)
    (words : Vector Word 7) : Moves s (t.withDone n words) := h.slot (.ends words .done .none .error (.inl pending) endsWith_done)

theorem Moves.doneSlot {s t : State} (h : Moves s t) {n : SlotId} (pending : (t.slots.get n).state = .pending) :
    Moves s (t.doneSlot n) := h.withDone pending _

theorem nextTake_takable {s : State} {n : SlotId} (h : s.nextTake = some n) : s.takable n := by
  have found : ∀ (l : List SlotId) (seen : List Target), s.firstEligible seen l = some n →
      (s.slots.get n).state = .pending ∧ (∀ g, slotTarget (s.slots.get n) = some g → g ∉ seen) ∧
        ∃ l₁ l₂, l = l₁ ++ n :: l₂ ∧
          ∀ m ∈ l₁, slotTarget (s.slots.get n) ≠ none → slotTarget (s.slots.get m) ≠ slotTarget (s.slots.get n) := by
    intro l
    induction l with
    | nil => intro seen h; simp [State.firstEligible] at h
    | cons m ms ih =>
      intro seen h
      unfold State.firstEligible at h
      split at h
      · next hm =>
        split at h
        · cases h
          exact ⟨‹_›, by simp [hm], [], ms, rfl, by simp⟩
        · obtain ⟨pending, fresh, l₁, l₂, rfl, ahead⟩ := ih seen h
          refine ⟨pending, fresh, m :: l₁, l₂, rfl, List.forall_mem_cons.2 ⟨fun some => ?_, ahead⟩⟩
          rw [hm]
          exact some.symm
      · next g hm =>
        split at h
        · next hp =>
          cases h
          exact ⟨hp.1, fun g' hg' => by rw [hm] at hg'; cases hg'; exact hp.2, [], ms, rfl, by simp⟩
        · obtain ⟨pending, fresh, l₁, l₂, rfl, ahead⟩ := ih _ h
          refine ⟨pending, fun g' hg' hmem => fresh g' hg' (List.mem_cons_of_mem _ hmem), m :: l₁, l₂, rfl,
            List.forall_mem_cons.2 ⟨fun _ same => ?_, ahead⟩⟩
          exact fresh g (same.symm.trans hm) (by simp)
  obtain ⟨pending, -, ahead⟩ := found s.submission [] h
  exact ⟨pending, ahead⟩

theorem takeOf_moves {s : State} {c : Option Command} {body : SlotId → State}
    (h : ∀ n, s.takable n → slotCommand (s.slots.get n) = c → Moves s (body n)) : Moves s (s.takeOf c body) := by
  obtain ⟨n, take, command, hb⟩ | hb := takeOf_cases s c body <;> rw [hb]
  exact h n (nextTake_takable take) command

/-! ### Completions -/

/-- What a completion does by the command in its slot (R138). -/
theorem complete_cases (s : State) (n : SlotId) :
    (∃ a g words, slotCommand (s.slots.get n) = some .apRetire ∧ slotAperture (s.slots.get n) = some a ∧
      (s.apertures.get a).life = .retiring g ∧
      s.complete n = ((s.setView g.owner ((s.views.get g.owner).filter fun i => decide (i ≠ a))).setAperture a
        { generation := (s.apertures.get a).generation + 1, life := .free }).withDone n words) ∨
    (∃ r words, slotCommand (s.slots.get n) = some .reqHalt ∧ slotRequester (s.slots.get n) = some r ∧
      (s.requesters.get r).state = .halting ∧
      s.complete n = (s.setRequester r { s.requesters.get r with state := .halted }).withDone n words) ∨
    ((slotCommand (s.slots.get n) = some .apRetire →
        ∀ a g, slotAperture (s.slots.get n) = some a → (s.apertures.get a).life ≠ .retiring g) ∧
      (slotCommand (s.slots.get n) = some .reqHalt →
        ∀ r, slotRequester (s.slots.get n) = some r → (s.requesters.get r).state ≠ .halting) ∧
      s.complete n = s.withDone n (s.slots.get n).words) := by
  unfold State.complete
  split
  · next command =>
    have noHalt : slotCommand (s.slots.get n) = some .reqHalt →
        ∀ r, slotRequester (s.slots.get n) = some r → (s.requesters.get r).state ≠ .halting := by simp [command]
    unfold State.completeRetire
    split
    · next none => exact .inr (.inr ⟨by simp [none], noHalt, rfl⟩)
    · next a aperture =>
      split
      · next g retiring => exact .inl ⟨a, g, _, command, aperture, retiring, doneSlot_setSlot _ n _⟩
      · next other =>
        refine .inr (.inr ⟨fun _ b g hb => ?_, noHalt, rfl⟩)
        rw [aperture] at hb
        cases hb
        exact other g
  · next command =>
    have noRetire : slotCommand (s.slots.get n) = some .apRetire →
        ∀ a g, slotAperture (s.slots.get n) = some a → (s.apertures.get a).life ≠ .retiring g := by simp [command]
    unfold State.completeHalt
    split
    · next none => exact .inr (.inr ⟨noRetire, by simp [none], rfl⟩)
    · next r key =>
      split
      · next halting => exact .inr (.inl ⟨r, _, command, key, halting, rfl⟩)
      · next other =>
        refine .inr (.inr ⟨noRetire, fun _ b hb => ?_, rfl⟩)
        rw [key] at hb
        cases hb
        exact other
  · next noRetire noHalt => exact .inr (.inr ⟨fun h => absurd h noRetire, fun h => absurd h noHalt, rfl⟩)

/-- A command that waits, or would wait, completes where nothing bears its mark. -/
theorem Moves.complete {s t : State} {n : SlotId} (h : Moves s (t.setSlotState n .waiting)) (drained : t.bears n = false) :
    Moves s (t.complete n) := by
  have slot : (t.setSlotState n .waiting).slots.get n = { t.slots.get n with state := .waiting } := by simp
  have waiting : ((t.setSlotState n .waiting).slots.get n).state = .waiting := by rw [slot]
  have command : slotCommand ((t.setSlotState n .waiting).slots.get n) = slotCommand (t.slots.get n) := by rw [slot]; rfl
  have aperture : slotAperture ((t.setSlotState n .waiting).slots.get n) = slotAperture (t.slots.get n) := by rw [slot]; rfl
  have requester : slotRequester ((t.setSlotState n .waiting).slots.get n) = slotRequester (t.slots.get n) := by rw [slot]; rfl
  obtain ⟨a, g, words, hc, ha, retiring, e⟩ | ⟨r, words, hc, hr, halting, e⟩ | ⟨noRetire, noHalt, e⟩ := complete_cases t n <;> rw [e]
  · have := h.move (.retired _ n words a g waiting drained (command.trans hc) (aperture.trans ha) retiring)
    rwa [← withDone_setSlot _ n { t.slots.get n with state := .waiting }]
  · have := h.move (.halted _ n words r waiting drained (command.trans hc) (requester.trans hr) halting)
    rwa [← withDone_setSlot _ n { t.slots.get n with state := .waiting }]
  · have := h.move (.drained _ n (t.slots.get n).words waiting drained (by rw [command, aperture]; exact noRetire)
      (by rw [command, requester]; exact noHalt))
    rwa [← withDone_setSlot _ n { t.slots.get n with state := .waiting }]

theorem Moves.waitOrComplete {s t : State} {n : SlotId} (h : Moves s (t.setSlotState n .waiting)) :
    Moves s (t.waitOrComplete n) := by
  unfold State.waitOrComplete
  split
  · exact h
  · next free => exact h.complete (by simpa using free)

theorem setSlotState_self {s : State} {n : SlotId} {st : SlotState} (h : (s.slots.get n).state = st) : s.setSlotState n st = s := by
  subst h
  exact congrArg (fun v => { s with slots := v }) (vset_get s.slots n)

theorem withWord_word0 (sl : Slot) {k : Fin 7} (h : k ≠ 0) (v : Word) : (withWord sl k v).words.get 0 = slotWord sl 0 :=
  vget_set_ne sl.words k 0 v h

theorem Moves.countLoss {s t : State} (h : Moves s t) {n : SlotId} (waiting : (t.slots.get n).state = .waiting) :
    Moves s (t.countLoss n) := by
  unfold State.countLoss
  split
  · exact h
  · exact h.slot (.words _ (.inr ⟨waiting, withWord_word0 _ (by decide) _⟩))

theorem countLoss_state (s : State) (n : SlotId) : ((s.countLoss n).slots.get n).state = (s.slots.get n).state := by
  unfold State.countLoss
  split
  · rfl
  · rw [writeWord_slot, if_pos rfl]
    rfl

theorem Moves.tell {s t : State} (h : Moves s t) (lost : Bool) (n : SlotId) : Moves s (t.tell lost n) := by
  have complete : ∀ {u : State}, Moves s u → (u.slots.get n).state = .waiting →
      Moves s (if u.bears n then u else u.complete n) := fun hu waiting => by
    split
    · exact hu
    · next free => exact Moves.complete (by rwa [setSlotState_self waiting]) (by simpa using free)
  unfold State.tell
  split
  · next waiting =>
    cases lost
    · exact complete h waiting
    · exact complete (h.countLoss waiting) ((countLoss_state t n).trans waiting)
  · exact h

theorem Moves.tellAll {s t : State} (h : Moves s t) (lost : Bool) (marks : MarkSet) (ns : List SlotId) :
    Moves s (t.tellAll lost marks ns) := by
  induction ns generalizing t with
  | nil => exact h
  | cons n ns ih =>
    refine ih ?_
    split
    · exact h.tell lost n
    · exact h

end Sys2Proof.Machine

/-! ## Every command is a chain of moves: the end of a walk

The waiters are finished before the preload ends and the page is installed: that changes nothing, since no waiter's turn looks at
the cache or the slots. -/

namespace Sys2Proof.Machine

/-- `s` with another cache, other slots and another submission list. -/
def State.withTables (s : State) (tc : List TcEntry) (slots : Vector Slot 8) (sub : List SlotId) : State :=
  { s with tc := tc, slots := slots, submission := sub }

theorem respondAll_withTables (ps : List Request) (x : LinkReply) (s : State) (tc : List TcEntry) (slots : Vector Slot 8)
    (sub : List SlotId) : (s.withTables tc slots sub).respondAll ps x = (s.respondAll ps x).withTables tc slots sub := by
  induction ps generalizing s with
  | nil => rfl
  | cons p ps ih => exact ih (s.respond p.requester p.tag x)

theorem release_withTables (s : State) (r : RequesterId) (x : LinkReply) (tc : List TcEntry) (slots : Vector Slot 8)
    (sub : List SlotId) : (s.withTables tc slots sub).release r x = (s.release r x).withTables tc slots sub :=
  respondAll_withTables (s.parkedOf r) x { s with
    walks := s.walks.map fun (w : Walk) => { w with waiters := w.waiters.filter fun p => decide (p.requester ≠ r) } } tc slots sub

theorem capture_withTables (s : State) (r : RequesterId) (f : FaultRecord) (tc : List TcEntry) (slots : Vector Slot 8)
    (sub : List SlotId) : (s.withTables tc slots sub).capture r f = (s.capture r f).withTables tc slots sub := by
  by_cases stops : (s.requesters.get r).stops
  · rw [capture_stopping s r f stops, capture_stopping (s.withTables tc slots sub) r f stops]
    exact release_withTables (s.setRequester r _) r _ tc slots sub
  · rw [capture_counting s r f stops, capture_counting (s.withTables tc slots sub) r f stops]
    rfl

theorem enter_withTables (s : State) (a : ApIndex) (ord : ReadOrder) (m : MemAddr) (q : Request) (tc : List TcEntry)
    (slots : Vector Slot 8) (sub : List SlotId) :
    (s.withTables tc slots sub).enter a ord m q = (s.enter a ord m q).withTables tc slots sub := by
  unfold State.enter
  split
  · by_cases room : s.pwq.length < Config.writeEntries
    · rw [if_pos room]; exact if_pos room
    · rw [if_neg room]; exact if_neg room
  · by_cases room : s.rdt.length < Config.readEntries
    · rw [if_pos room]; exact if_pos room
    · rw [if_neg room]; exact if_neg room

/-- How the turns of a walk's waiters go: each is a chain of moves from the state in which the waiter is still parked, looks at
no table that the end of the walk changes, and leaves every walk as it is but for waiters. -/
structure Finisher (finish : Walk → Request → State → State) : Prop where
  moves : ∀ (s : State) (t : PortTagId) (w : Walk) (p : Request) (ps : List Request),
    s.walks.find? (Walk.holdsTag t) = some w → w.waiters = p :: ps →
    Moves s (finish w p { s with walks := updateFirst (Walk.holdsTag t) (fun (w : Walk) => { w with waiters := ps }) s.walks })
  tables : ∀ (w : Walk) (p : Request) (s : State) (tc : List TcEntry) (slots : Vector Slot 8) (sub : List SlotId),
    finish w p (s.withTables tc slots sub) = (finish w p s).withTables tc slots sub
  finds : ∀ (w : Walk) (p : Request) (s : State) (t : PortTagId) (v : Walk), s.walks.find? (Walk.holdsTag t) = some v →
    ∃ ps, (finish w p s).walks.find? (Walk.holdsTag t) = some { v with waiters := ps }

theorem find_map_waiters {t : PortTagId} {f : Walk → List Request} {l : List Walk} {v : Walk}
    (h : l.find? (Walk.holdsTag t) = some v) :
    (l.map fun (w : Walk) => { w with waiters := f w }).find? (Walk.holdsTag t) = some { v with waiters := f v } := by
  obtain ⟨l₁, l₂, rfl, h₁, hv⟩ := first_of_find h
  rw [List.map_append, List.map_cons]
  refine find_split _ (fun w hw => ?_) hv
  obtain ⟨u, hu, rfl⟩ := List.mem_map.1 hw
  exact h₁ u hu

/-- A waiter is answered and its fault captured. -/
theorem answered_finisher (x : LinkReply) (f : Walk → Request → FaultRecord) :
    Finisher fun w p s => (s.respond p.requester p.tag x).capture p.requester (f w p) where
  moves s t w p ps found waiters := by
    refine Moves.capture (((Moves.here s).narrow (walksNarrow_pop found waiters)).quiet ?_) _ _
    rfl
  tables w p s tc slots sub := capture_withTables (s.respond p.requester p.tag x) ..
  finds w p s t v found := by
    rcases capture_walks (s.respond p.requester p.tag x) p.requester (f w p) with h | ⟨-, h⟩ <;> rw [h]
    · exact ⟨v.waiters, found⟩
    · exact ⟨_, find_map_waiters found⟩

theorem noPageWaiter_finisher : Finisher State.noPageWaiter := answered_finisher ..

theorem walkErrorWaiter_finisher (q : Qualifier) : Finisher (State.walkErrorWaiter q) := answered_finisher ..

theorem resumeWaiter_finisher (pe : PageEntry) : Finisher (State.resumeWaiter pe) where
  moves s t w p ps found waiters := by
    unfold State.resumeWaiter
    split
    · have hw := List.mem_of_find?_eq_some found
      have hp : p ∈ w.waiters := by simp [waiters]
      exact enter_moves ⟨.inr ⟨w, hw, p, hp, rfl⟩, .inr ⟨w, hw, List.ne_nil_of_mem hp, rfl⟩⟩ (walksNarrow_pop found waiters)
    · exact (answered_finisher _ fun w p => .permission (direction p) p.addr w.aperture).moves s t w p ps found waiters
  tables w p s tc slots sub := by
    unfold State.resumeWaiter
    split
    · exact enter_withTables ..
    · exact (answered_finisher _ fun w p => .permission (direction p) p.addr w.aperture).tables w p s tc slots sub
  finds w p s t v found := by
    unfold State.resumeWaiter
    split
    · rw [enter_frame]
      exact ⟨v.waiters, found⟩
    · exact (answered_finisher _ fun w p => .permission (direction p) p.addr w.aperture).finds w p s t v found

section Finisher

variable {finish : Walk → Request → State → State}

theorem Finisher.keeps (fin : Finisher finish) (w : Walk) (p : Request) (s : State) :
    (finish w p s).tc = s.tc ∧ (finish w p s).slots = s.slots ∧ (finish w p s).submission = s.submission := by
  have h : finish w p s = (finish w p s).withTables s.tc s.slots s.submission := fin.tables w p s ..
  have tc := congrArg State.tc h
  have slots := congrArg State.slots h
  have sub := congrArg State.submission h
  exact ⟨tc, slots, sub⟩

theorem Finisher.turns_moves (fin : Finisher finish) (t : PortTagId) (k : Nat) (s : State) :
    Moves s (State.finishWaiters t finish k s) :=
  finishWaiters_keeps (Moves s) (fun _ _ _ _ h found waiters => h.trans (fin.moves _ t _ _ _ found waiters)) k s .refl

theorem Finisher.turns_withTables (fin : Finisher finish) (t : PortTagId) (tc : List TcEntry) (slots : Vector Slot 8)
    (sub : List SlotId) (k : Nat) (s : State) :
    State.finishWaiters t finish k (s.withTables tc slots sub) = (State.finishWaiters t finish k s).withTables tc slots sub := by
  induction k generalizing s with
  | zero => rfl
  | succ k ih =>
    rw [State.finishWaiters, State.finishWaiters]
    have walks : (s.withTables tc slots sub).walks = s.walks := rfl
    rw [walks]
    cases s.walks.find? (Walk.holdsTag t) with
    | none => rfl
    | some w =>
      dsimp only
      cases w.waiters with
      | nil => rfl
      | cons p ps =>
        dsimp only
        rw [← ih, ← fin.tables]
        rfl

/-- After the turns the walk still stands, with its preload, and the tables are as before. -/
theorem Finisher.turns_keep (fin : Finisher finish) {t : PortTagId} {w : Walk} (k : Nat) {s : State}
    (found : s.walks.find? (Walk.holdsTag t) = some w) :
    ((State.finishWaiters t finish k s).tc = s.tc ∧ (State.finishWaiters t finish k s).slots = s.slots ∧
      (State.finishWaiters t finish k s).submission = s.submission) ∧
    ∃ ps, (State.finishWaiters t finish k s).walks.find? (Walk.holdsTag t) = some { w with waiters := ps } := by
  refine finishWaiters_keeps (fun u => (u.tc = s.tc ∧ u.slots = s.slots ∧ u.submission = s.submission) ∧
    ∃ ps, u.walks.find? (Walk.holdsTag t) = some { w with waiters := ps }) ?_ k s ⟨⟨rfl, rfl, rfl⟩, w.waiters, found⟩
  rintro u v p ps ⟨⟨tc, slots, sub⟩, qs, hv⟩ found' -
  obtain ⟨tc', slots', sub'⟩ := fin.keeps v p
    { u with walks := updateFirst (Walk.holdsTag t) (fun (w : Walk) => { w with waiters := ps }) u.walks }
  refine ⟨⟨tc'.trans tc, slots'.trans slots, sub'.trans sub⟩, ?_⟩
  obtain ⟨l₁, l₂, split, h₁, hw⟩ := first_of_find hv
  refine fin.finds v p _ t { w with waiters := ps } ?_
  dsimp only
  rw [split, updateFirst_split _ _ h₁ hw]
  exact find_split (x := { w with waiters := ps }) _ h₁ hw

/-- The end of a preload writes the slots and the submission list alone, and looks at nothing else. -/
theorem endPreloadOf_withTables (s : State) (w : Walk) (o : PreloadEnd) :
    s.endPreloadOf w o = s.withTables s.tc (s.endPreloadOf w o).slots (s.endPreloadOf w o).submission := by
  conv_lhs => rw [endPreloadOf_frame]
  rfl

theorem endPreloadOf_congr {s u : State} (slots : u.slots = s.slots) (sub : u.submission = s.submission) {w v : Walk}
    (preload : v.preload = w.preload) (o : PreloadEnd) :
    (u.endPreloadOf v o).slots = (s.endPreloadOf w o).slots ∧ (u.endPreloadOf v o).submission = (s.endPreloadOf w o).submission := by
  unfold State.endPreloadOf State.endPreload
  rw [preload, slots]
  cases w.preload with
  | none => exact ⟨slots, sub⟩
  | some np =>
    dsimp only
    split
    · cases o <;> simp [State.doneSlot, State.failSlot, State.endSlot, State.writeWord, State.setSlot, slots, sub]
    · exact ⟨slots, sub⟩

theorem Finisher.walkEnds_moves (fin : Finisher finish) {s : State} {t : PortTagId} {w : Walk} (k : Nat)
    (found : s.walks.find? (Walk.holdsTag t) = some w) (live : w.orphaned = false) (tc : List TcEntry)
    (keys : tc = s.tc ∨ ∃ e l, tc = e :: l ∧ e.key = (w.aperture, w.generation, w.page) ∧ l.Sublist s.tc) (o : PreloadEnd) :
    Moves s ((State.finishWaiters t finish k (State.endPreloadOf { s with tc := tc } w o)).removeWalk t) := by
  obtain ⟨⟨tcKept, slotsKept, subKept⟩, ps, found'⟩ := fin.turns_keep k found
  have turns := fin.turns_moves t k s
  have ends := turns.move (.walkEnds _ t { w with waiters := ps } tc o found' live (tcKept.symm ▸ keys))
  obtain ⟨slots, sub⟩ := endPreloadOf_congr (s := { s with tc := tc })
    (u := { State.finishWaiters t finish k s with
      tc := tc, walks := (State.finishWaiters t finish k s).walks.eraseP (Walk.holdsTag t) })
    slotsKept subKept (v := { w with waiters := ps }) (w := w) rfl o
  refine ends.quiet ?_
  have early : State.endPreloadOf { s with tc := tc } w o = s.withTables tc (State.endPreloadOf { s with tc := tc } w o).slots
      (State.endPreloadOf { s with tc := tc } w o).submission := endPreloadOf_withTables ..
  generalize (State.endPreloadOf { s with tc := tc } w o).slots = sl at early slots
  generalize (State.endPreloadOf { s with tc := tc } w o).submission = sb at early sub
  rw [early, fin.turns_withTables, endPreloadOf_frame]
  exact core_ext rfl rfl rfl rfl rfl rfl rfl slots.symm sub.symm

end Finisher

/-! ### The completion of a walk -/

theorem makeRoom_sublist (l : List TcEntry) : (makeRoom l).Sublist l := by
  unfold makeRoom dropLast
  split
  · rw [← List.reverse_reverse l, List.reverse_sublist]
    simpa using List.eraseP_sublist
  · exact .refl l

theorem completeWalk_moves {s : State} {t : PortTagId} {w : Walk} (found : s.walks.find? (Walk.holdsTag t) = some w)
    (live : w.orphaned = false) (o : PortOutcome) : Moves s (s.completeWalk t w o) := by
  cases o with
  | ok data =>
    unfold State.completeWalk
    dsimp only
    have used : Moves s (s.useFree Config.pageEntryBytes data) := moves_of_core rfl
    split
    · exact used.trans ((resumeWaiter_finisher _).walkEnds_moves (s := s.useFree Config.pageEntryBytes data) _ found live _
        (.inr ⟨_, _, rfl, rfl, makeRoom_sublist _⟩) _)
    · exact used.trans (noPageWaiter_finisher.walkEnds_moves (s := s.useFree Config.pageEntryBytes data) _ found live _ (.inl rfl) _)
  | error => exact (walkErrorWaiter_finisher .error).walkEnds_moves _ found live _ (.inl rfl) _
  | timeout => exact (walkErrorWaiter_finisher .timeout).walkEnds_moves _ found live _ (.inl rfl) _

theorem departWalk_moves (s : State) (t : PortTagId) (o : PortOutcome) : Moves s (s.departWalk t o) := by
  unfold State.departWalk
  split
  · exact .refl
  · next w found =>
    split
    · next orphaned =>
      obtain ⟨l₁, l₂, split, h₁, hw⟩ := first_of_find found
      refine (Moves.here s).move (.walks s _ ?_ fun v hv live => .inl ⟨v, ?_, rfl⟩)
      · exact sublistForall₂_of_sublist Walk.later_refl List.eraseP_sublist
      · have ne : v ≠ w := by rintro rfl; simp [orphaned] at live
        rw [split, eraseP_split _ h₁ hw]
        rw [split] at hv
        simpa [ne] using hv
    · exact completeWalk_moves found (by simpa using ‹¬w.orphaned = true›) o

/-! ### Departures of writes and reads -/

theorem freeRead_later (k : Nat) (d : ReadEntry) : (freeRead k d).later d := ⟨rfl, rfl, fun _ h => h⟩

theorem departWrite_moves (s : State) (t : PortTagId) (o : PortOutcome) : Moves s (s.departWrite t o) := by
  unfold State.departWrite
  split
  · exact .refl
  · next e _ =>
    have left : Moves s { s with pwq := s.pwq.eraseP (PostedWrite.holdsTag t), rdt := s.rdt.map (freeRead e.seq) } := by
      refine (Moves.here s).move (.entries s _ _ (fun e he => .inl ⟨e, List.mem_of_mem_eraseP he, rfl, rfl, fun _ h => h⟩)
        fun d hd => .inl ?_)
      obtain ⟨d₀, hd₀, rfl⟩ := List.mem_map.1 hd
      exact ⟨d₀, hd₀, freeRead_later _ _⟩
    dsimp only
    split
    · exact left.tellAll ..
    · exact (left.capture ..).tellAll ..

theorem departRead_moves (s : State) (t : PortTagId) (o : PortOutcome) : Moves s (s.departRead t o) := by
  unfold State.departRead
  split
  · exact .refl
  · next d _ =>
    have left : Moves s { s with rdt := s.rdt.eraseP (ReadEntry.holdsTag t) } :=
      (Moves.here s).move (.entries s _ _ (fun e he => .inl ⟨e, he, rfl, rfl, fun _ h => h⟩)
        fun d hd => .inl ⟨d, List.mem_of_mem_eraseP hd, rfl, rfl, fun _ h => h⟩)
    have answered : Moves s (State.answerRead { s with rdt := s.rdt.eraseP (ReadEntry.holdsTag t) } d o) :=
      left.quiet (by rw [answerRead_frame]; rfl)
    dsimp only
    split
    · exact answered.tellAll ..
    · exact (answered.capture ..).tellAll ..

theorem ownerTakes_moves (s : State) (t : PortTagId) (k : PortKind) (o : PortOutcome) : Moves s (s.ownerTakes t k o) := by
  cases k with
  | walk => exact departWalk_moves s t o
  | write => exact departWrite_moves s t o
  | read => exact departRead_moves s t o

/-! ### Grants -/

theorem issueWalk_moves {s : State} {t : PortTagId} {w : Walk} (found : s.walks.find? Walk.waits = some w) :
    Moves s (s.issueWalk t w) := by
  obtain ⟨l₁, l₂, split, h₁, hw⟩ := first_of_find found
  refine ((Moves.here s).narrow (ws := updateFirst Walk.waits (fun (w : Walk) => { w with state := .issued t }) s.walks) ?_).quiet rfl
  rw [split, updateFirst_split _ _ h₁ hw]
  exact walksNarrow_replace ⟨⟨rfl, rfl, rfl, rfl⟩, .refl _, by simp, .inl ⟨rfl, rfl⟩⟩ rfl

theorem issueWrite_moves (s : State) (t : PortTagId) (e : PostedWrite) : Moves s (s.issueWrite t e) := by
  refine ((Moves.here s).move (.entries s _ s.rdt (fun e he => .inl ?_) fun d hd => .inl ⟨d, hd, rfl, rfl, fun _ h => h⟩)).quiet
    (t := { s with pwq := updateFirst PostedWrite.isQueued (fun (e : PostedWrite) => { e with state := .issued t }) s.pwq }) rfl
  rcases mem_updateFirst he with he | ⟨e₀, he₀, -, rfl⟩
  · exact ⟨e, he, rfl, rfl, fun _ h => h⟩
  · exact ⟨e₀, he₀, rfl, rfl, fun _ h => h⟩

theorem issueRead_moves (s : State) (t : PortTagId) (d : ReadEntry) : Moves s (s.issueRead t d) := by
  refine ((Moves.here s).move (.entries s s.pwq _ (fun e he => .inl ⟨e, he, rfl, rfl, fun _ h => h⟩) fun d hd => .inl ?_)).quiet
    (t := { s with rdt := updateFirst ReadEntry.isReady (fun (d : ReadEntry) => { d with state := .issued t }) s.rdt }) rfl
  rcases mem_updateFirst hd with hd | ⟨d₀, hd₀, -, rfl⟩
  · exact ⟨d, hd, rfl, rfl, fun _ h => h⟩
  · exact ⟨d₀, hd₀, rfl, rfl, fun _ h => h⟩

theorem arbitrate_moves (s : State) (t : PortTagId) : Moves s (s.arbitrate t) := by
  obtain ⟨w, found, h⟩ | ⟨-, e, -, ⟨h, -⟩ | ⟨h, -⟩⟩ | ⟨-, d, -, ⟨h, -⟩ | ⟨h, -⟩⟩ | h := arbitrate_cases s t <;> rw [h]
  · exact issueWalk_moves found
  · exact issueWrite_moves s t e
  · exact (issueWrite_moves s t e).quiet rfl
  · exact issueRead_moves s t d
  · exact (issueRead_moves s t d).quiet rfl

end Sys2Proof.Machine

/-! ## Every command is a chain of moves: the commands -/

namespace Sys2Proof.Machine

/-! ### ARRIVAL and LINK_RESET -/

theorem maskEnables_idem (q : Request) : maskEnables (maskEnables q) = maskEnables q := by
  cases q with
  | mk requester tag payload addr length =>
    cases payload with
    | read => rfl
    | write en data => simp [maskEnables, rangeMask, BitVec.and_assoc]

theorem toHead_perm (p : TcEntry → Bool) (l : List TcEntry) : (toHead p l).Perm l := by
  rcases split_at_first p l with h | ⟨l₁, e, l₂, rfl, h₁, he⟩
  · rw [toHead, find_none p h]
  · rw [toHead_split h₁ he]
    exact List.perm_middle.symm

theorem Moves.cachePerm {s t : State} (h : Moves s t) {tc : List TcEntry} (perm : tc.Perm t.tc) : Moves s { t with tc := tc } :=
  h.move (.cache t tc (perm.map _).subperm)

/-- A request answered ABORT, with its fault captured. -/
theorem Moves.aborted {s t : State} (h : Moves s t) (q : Request) (x : LinkReply) (f : FaultRecord) :
    Moves s ((t.respond q.requester q.tag x).capture q.requester f) :=
  (h.quiet (u := t.respond q.requester q.tag x) rfl).capture ..

theorem Moves.enter {s t : State} (h : Moves s t) {a : ApIndex} {ord : ReadOrder} {m : MemAddr} {q : Request}
    (admits : t.admits q.requester a) : Moves s (t.enter a ord m q) := h.trans (enter_moves admits (walksNarrow_refl _))

theorem park_moves {s : State} {a : ApIndex} {g : Grant} (gen : Generation) (page : Nat) {q : Request}
    (enabled : (s.requesters.get q.requester).state = .enabled) (form : maskEnables q = q)
    (live : (s.apertures.get a).life = .live g) (own : a ∈ s.views.get q.requester) : Moves s (s.park a gen page q) := by
  unfold State.park
  split
  · exact (Moves.here s).move (.parks s a g gen page q enabled form live own)
  · exact moves_of_core rfl

theorem translate_moves {s : State} {a : ApIndex} {g : Grant} {q : Request}
    (enabled : (s.requesters.get q.requester).state = .enabled) (form : maskEnables q = q)
    (found : s.lookup q.requester q.addr = some (a, g)) : Moves s (s.translate a g q) := by
  obtain ⟨own, live, range⟩ := lookup_eq_some found
  have admits : s.admits q.requester a := ⟨.inl enabled, .inl ⟨g, live⟩⟩
  unfold State.translate
  split
  · exact (Moves.here s).enter admits
  · next mapBase mapped =>
    dsimp only
    split
    · have headed := (Moves.here s).cachePerm (toHead_perm (TcEntry.isFor a (s.apertures.get a).generation (linkPage g q.addr)) s.tc)
      unfold State.hit
      split
      · exact headed.enter admits
      · exact headed.aborted ..
    · next uncached =>
      unfold State.miss
      split
      · exact park_moves _ _ enabled form live own
      · next unwalked =>
        split
        · have inPages : linkPage g q.addr < g.pages := by
            obtain ⟨low, high⟩ := inRange_iff.1 range
            rw [rangeEnd] at high
            exact Nat.div_lt_of_lt_mul (by omega)
          refine Relation.ReflTransGen.trans (.single (.walkStarts s a g mapBase _ live mapped inPages ?_ ?_))
            (park_moves _ _ enabled form live own)
          · simpa using uncached
          · simpa using unwalked
        · exact moves_of_core rfl

theorem checkAdmission_moves {s : State} {q : Request} (form : maskEnables q = q) : Moves s (s.checkAdmission q) := by
  unfold State.checkAdmission
  split
  · exact moves_of_core rfl
  · next admitted =>
    have enabled : (s.requesters.get q.requester).state = .enabled := by
      cases h : (s.requesters.get q.requester).state <;> simp [admission, h] at admitted
      rfl
    split
    · exact (Moves.here s).aborted ..
    · next a g found =>
      split
      · exact translate_moves enabled form found
      · exact (Moves.here s).aborted ..

theorem checkArrival_moves (s : State) (q : Request) : Moves s (s.checkArrival q) := by
  unfold State.checkArrival
  split
  · split
    · exact checkAdmission_moves (maskEnables_idem q)
    · exact moves_of_core rfl
  · exact (Moves.here s).aborted ..

/-! ### The takes of the aperture commands -/

theorem takeApSet_moves {s : State} {n : SlotId} (take : s.takable n) : Moves s (s.takeApSet n) := by
  have fail : ∀ code, code ≠ .none → Moves s (s.failSlot n code) := fun _ => (Moves.here s).failSlot take.1
  unfold State.takeApSet
  dsimp only
  split
  · next a owner _ hasOwner =>
    split
    · exact fail _ (by simp)
    · exact fail _ (by simp)
    · next free =>
      split
      · exact fail _ (by simp)
      · next aligned =>
        split
        · exact fail _ (by simp)
        · next g operands =>
          split
          · exact fail _ (by simp)
          · next apart =>
            obtain ⟨-, fits⟩ := (grantOperands_eq_some hasOwner (by simpa using aligned)).1 operands
            have granted := (Moves.here s).move (.grants s a g free fits (by simpa using apart))
            unfold State.grantAperture
            dsimp only
            rw [State.writeWord, doneSlot_setSlot]
            exact granted.withDone take.1 _
  · exact fail _ (by simp)

theorem takeQueryAperture_moves {s : State} {n : SlotId} (take : s.takable n) : Moves s (s.takeQueryAperture n) := by
  unfold State.takeQueryAperture
  split
  · exact (Moves.here s).failSlot take.1 (by simp)
  · rw [doneSlot_setSlot]
    exact (Moves.here s).withDone take.1 _

theorem orphanWalk_later {w v : Walk} (h : orphanWalk w = some v) :
    v.later w ∧ v.orphaned = true ∧ v.waiters = [] := by
  unfold orphanWalk at h
  split at h
  · cases h
  · next issued =>
    cases h
    exact ⟨⟨⟨rfl, rfl, rfl, rfl⟩, List.nil_sublist _, id, .inr ⟨rfl, rfl, rfl, by simp [issued]⟩⟩, rfl, rfl⟩

theorem orphan_eq (s : State) (p : Walk → Bool) (x : LinkReply) :
    ∃ tags out, s.orphan p x = { s with
      walks := s.walks.filterMap fun w => if p w then orphanWalk w else some w
      linkTags := tags
      linkOut := out } := ⟨_, _, orphan_frame s p x⟩

/-- Walks of one aperture are orphaned by a command that is taken of that aperture. -/
theorem Moves.orphan {s t : State} (h : Moves s t) {p : Walk → Bool} (x : LinkReply) {a : ApIndex}
    (scope : ∀ w, p w = true → w.aperture = a) (takes : t.takesAperture a) : Moves s (t.orphan p x) := by
  obtain ⟨tags, out, e⟩ := orphan_eq t p x
  rw [e]
  refine (h.move (.walks t (t.walks.filterMap fun w => if p w then orphanWalk w else some w) ?_ fun w hw _ => ?_)).quiet rfl
  · refine sublistForall₂_filterMap fun w _ v hv => ?_
    split at hv
    · exact (orphanWalk_later hv).1
    · cases hv
      exact w.later_refl
  · by_cases hp : p w = true
    · exact .inr (scope w hp ▸ takes)
    · exact .inl ⟨w, List.mem_filterMap.2 ⟨w, hw, by simp [hp]⟩, rfl⟩

theorem Moves.dropEntries {s t : State} (h : Moves s t) (p : TcEntry → Bool) : Moves s (t.dropEntries p) :=
  h.move (.cache t _ (List.filter_sublist.map _).subperm)

theorem takesAperture_of {s : State} {n : SlotId} {a : ApIndex} {c : Command} (take : s.takable n)
    (command : slotCommand (s.slots.get n) = some c) (ofAperture : c = .apRetire ∨ c = .apInvalidate)
    (aperture : slotAperture (s.slots.get n) = some a) : s.takesAperture a := by
  refine ⟨n, take, ?_, aperture⟩
  rcases ofAperture with rfl | rfl <;> simp [slotTarget, command]

/-- Words 5 and 6 of a slot are written as its command begins to wait. -/
theorem waiting_words (s : State) (n : SlotId) (v v' : Word) :
    ((s.writeWord n 5 v).writeWord n 6 v').setSlotState n .waiting = s.setSlot n { s.slots.get n with
      state := .waiting, words := ((s.slots.get n).words.set 5 v).set 6 v' } := by
  simp [State.setSlotState, State.writeWord, State.setSlot, withWord]

theorem words56_word0 (sl : Slot) (v v' : Word) : ((sl.words.set 5 v).set 6 v').get 0 = slotWord sl 0 := by
  simp [Vector.get_eq_getElem, slotWord]

theorem retire_moves {s : State} {n : SlotId} {a : ApIndex} {g : Grant} (take : s.takable n)
    (command : slotCommand (s.slots.get n) = some .apRetire) (aperture : slotAperture (s.slots.get n) = some a)
    (live : (s.apertures.get a).life = .live g) : Moves s (s.retire n a g) := by
  have takes := takesAperture_of take command (.inl rfl) aperture
  have marked := ((((Moves.here s).dropEntries fun e => decide (e.aperture = a)).orphan (p := fun w => decide (w.aperture = a))
    (.abort .noAperture) (fun _ => of_decide_eq_true) takes).mark n (fun e => decide (e.aperture = a))
    (fun d => decide (d.aperture = a)))
  obtain ⟨tags, out, e⟩ := orphan_eq (s.dropEntries fun e => decide (e.aperture = a)) (fun w => decide (w.aperture = a))
    (.abort .noAperture)
  rw [e] at marked
  have waits := marked.move (.retires _ n (((s.slots.get n).words.set 5 0).set 6 (fieldAt 0 (s.apertures.get a).generation)) a g take
    (words56_word0 ..) command aperture live (fun e he => ?_) (fun w hw ha => ?_)
    (mark_writes fun _ _ h => decide_eq_true h) (mark_reads fun _ _ h => decide_eq_true h))
  · obtain ⟨tags', out', e'⟩ := orphan_eq
      ((s.setAperture a { generation := (s.apertures.get a).generation, life := .retiring g }).dropEntries fun e =>
        decide (e.aperture = a)) (fun w => decide (w.aperture = a)) (.abort .noAperture)
    unfold State.retire
    dsimp only
    rw [e']
    refine Moves.waitOrComplete (waits.quiet ?_)
    rw [waiting_words]
    rfl
  · simpa using List.of_mem_filter he
  · obtain ⟨v, -, hv⟩ := List.mem_filterMap.1 hw
    split at hv
    · exact (orphanWalk_later hv).2
    · cases hv
      exact absurd (decide_eq_true ha) ‹_›

theorem takeApRetire_moves {s : State} {n : SlotId} (take : s.takable n) (command : slotCommand (s.slots.get n) = some .apRetire) :
    Moves s (s.takeApRetire n) := by
  have fail : ∀ code, code ≠ .none → Moves s (s.failSlot n code) := fun _ => (Moves.here s).failSlot take.1
  unfold State.takeApRetire
  split
  · exact fail _ (by simp)
  · next a aperture =>
    split
    · exact fail _ (by simp)
    · exact fail _ (by simp)
    · next g live =>
      split
      · exact retire_moves take command aperture live
      · exact fail _ (by simp)

/-- A command that drains no record waits, or completes at once. -/
theorem Moves.waits {s t : State} (h : Moves s t) {n : SlotId} {words : Vector Word 7} (take : t.takable n)
    (word : words.get 0 = slotWord (t.slots.get n) 0)
    (command : slotCommand (t.slots.get n) ≠ some .apRetire ∧ slotCommand (t.slots.get n) ≠ some .reqHalt) :
    Moves s (t.setSlot n { t.slots.get n with state := .waiting, words := words }) := h.slot (.waits words take word command)

theorem invalidate_moves {s : State} {n : SlotId} {a : ApIndex} (g : Grant) (take : s.takable n)
    (command : slotCommand (s.slots.get n) = some .apInvalidate) (aperture : slotAperture (s.slots.get n) = some a) :
    Moves s (s.invalidate n a g) := by
  have takes := takesAperture_of take command (.inr rfl) aperture
  unfold State.invalidate
  dsimp only
  refine Moves.waitOrComplete ?_
  rw [waiting_words]
  refine Moves.waits (Moves.mark (Moves.orphan ((Moves.here s).dropEntries _) _ (a := a) (fun w hw => ?_) takes) ..) ?_ ?_ ?_
  · simp at hw
    exact hw.1
  · rw [orphan_frame]
    exact take
  · exact words56_word0 ..
  · rw [orphan_frame]
    change slotCommand (s.slots.get n) ≠ _ ∧ slotCommand (s.slots.get n) ≠ _
    simp [command]

theorem takeApInvalidate_moves {s : State} {n : SlotId} (take : s.takable n)
    (command : slotCommand (s.slots.get n) = some .apInvalidate) : Moves s (s.takeApInvalidate n) := by
  have fail : ∀ code, code ≠ .none → Moves s (s.failSlot n code) := fun _ => (Moves.here s).failSlot take.1
  unfold State.takeApInvalidate
  dsimp only
  split
  · exact fail _ (by simp)
  · next a aperture =>
    split
    · next g live =>
      split
      · exact invalidate_moves g take command aperture
      · exact fail _ (by simp)
    · exact fail _ (by simp)

theorem takeFlush_moves {s : State} {n : SlotId} (take : s.takable n) (command : slotCommand (s.slots.get n) = some .flush) :
    Moves s (s.takeFlush n) := by
  unfold State.takeFlush
  refine Moves.waitOrComplete ?_
  have words : ∀ u : State, (u.writeWord n 5 0).setSlotState n .waiting =
      u.setSlot n { u.slots.get n with state := .waiting, words := (u.slots.get n).words.set 5 0 } := fun u => by
    simp [State.setSlotState, State.writeWord, State.setSlot, withWord]
  rw [words]
  refine ((Moves.here s).mark ..).waits take (by simp [Vector.get_eq_getElem, slotWord]) ?_
  change slotCommand (s.slots.get n) ≠ _ ∧ slotCommand (s.slots.get n) ≠ _
  simp [command]

/-! ### The takes of the requester commands -/

theorem takeRequester_moves {s : State} {n : SlotId} {body : RequesterId → State} (take : s.takable n)
    (h : ∀ r, slotRequester (s.slots.get n) = some r → Moves s (body r)) : Moves s (s.takeRequester n body) := by
  unfold State.takeRequester
  split
  · exact (Moves.here s).failSlot take.1 (by simp)
  · exact h _ ‹_›

section Requester

variable {s : State} {n : SlotId} {r : RequesterId}

/-- A requester changes into a state that needs nothing released, and the command ends DONE. -/
theorem becomes_moves (take : s.takable n) {x : Requester}
    (may : x.state = (s.requesters.get r).state ∨ s.mayBecome r x.state) : Moves s ((s.setRequester r x).doneSlot n) :=
  ((Moves.here s).move (.requester s r x may)).doneSlot take.1

theorem enable_moves (take : s.takable n) : Moves s (s.enable n r) := by
  have notHalting : ∀ st, (s.requesters.get r).state = st → st = .disabled ∨ st = .enabled →
      s.mayBecome r .enabled := fun st h hst => by
    refine ⟨by simp, .inl rfl, fun hh => ?_⟩
    rcases hst with rfl | rfl <;> simp [h] at hh
  unfold State.enable
  dsimp only
  split
  · exact becomes_moves take (.inr (notHalting _ ‹_› (.inl rfl)))
  · exact becomes_moves take (.inr (notHalting _ ‹_› (.inr rfl)))
  all_goals exact (Moves.here s).failSlot take.1 (by simp)

theorem disable_moves (take : s.takable n) (takes : s.takesRequester r) : Moves s (s.disable n r) := by
  unfold State.disable
  dsimp only
  split
  · refine ((Moves.here s).releaseInto r _ ⟨by simp, by simp⟩ fun _ => takes).doneSlot ?_
    rw [release_frame]
    exact take.1
  · next left =>
    exact becomes_moves take (.inr ⟨by simp, .inr (.inl left), fun _ => takes⟩)

theorem resume_moves (take : s.takable n) : Moves s (s.resume n r) := by
  unfold State.resume
  dsimp only
  split
  · next halted => exact becomes_moves take (.inr ⟨by simp, .inl rfl, fun h => by simp [halted] at h⟩)
  · exact (Moves.here s).failSlot take.1 (by simp)

theorem clearFault_moves (take : s.takable n) : Moves s (s.clearFault n r) := by
  unfold State.clearFault
  refine becomes_moves take ?_
  dsimp only
  split
  · next stopped => exact .inr ⟨by simp, .inl rfl, fun h => by simp [stopped] at h⟩
  · exact .inl rfl

theorem queryRequester_moves (take : s.takable n) : Moves s (s.queryRequester n r) := by
  unfold State.queryRequester
  rw [doneSlot_setSlot]
  exact (Moves.here s).withDone take.1 _

/-- A halt marks the entries of its requester, of which nothing is parked any longer. -/
theorem drainRequester_moves {t u : State} (h : Moves s t) {x : Requester} (same : u.core = (t.setRequester r x).core)
    (take : t.takable n) (command : slotCommand (t.slots.get n) = some .reqHalt)
    (isRequester : slotRequester (t.slots.get n) = some r)
    (state : (t.requesters.get r).state = .enabled ∧ t.noneParked r ∨ (t.requesters.get r).state = .stopped)
    (halting : x.state = .halting) : Moves s (u.drainRequester n r) := by
  unfold State.drainRequester
  refine Moves.waitOrComplete (Moves.quiet ((h.mark n (fun e => decide (e.requester = r)) fun d => decide (d.requester = r)).move
    (.halts _ n r x take command isRequester state halting (mark_writes fun _ _ h => decide_eq_true h)
      (mark_reads fun _ _ h => decide_eq_true h))) ?_)
  rw [eq_withQuiet same]
  rfl

theorem halt_moves (take : s.takable n) (command : slotCommand (s.slots.get n) = some .reqHalt)
    (isRequester : slotRequester (s.slots.get n) = some r) : Moves s (s.halt n r) := by
  unfold State.halt
  dsimp only
  split
  · next enabled =>
    obtain ⟨tags, out, e⟩ := release_eq (s.setRequester r { s.requesters.get r with state := .halting }) r (.retry .halted)
    rw [e]
    exact drainRequester_moves ((Moves.here s).released r) rfl take command isRequester (.inl ⟨enabled, noneParked_released s r⟩) rfl
  · next stopped => exact drainRequester_moves (Moves.here s) rfl take command isRequester (.inr stopped) rfl
  · exact (Moves.here s).doneSlot take.1
  all_goals exact (Moves.here s).failSlot take.1 (by simp)

end Requester

/-! ### The takes of the cache commands -/

theorem takeTcPreload_moves {s : State} {n : SlotId} (take : s.takable n) (command : slotCommand (s.slots.get n) = some .tcPreload) :
    Moves s (s.takeTcPreload n) := by
  have fail : ∀ code, code ≠ .none → Moves s (s.failSlot n code) := fun _ => (Moves.here s).failSlot take.1
  unfold State.takeTcPreload
  dsimp only
  split
  · exact fail _ (by simp)
  · next a aperture =>
    split
    · next g live =>
      split
      · exact fail _ (by simp)
      · next mapBase mapped =>
        split
        · next inPages =>
          split
          · next e found =>
            unfold State.preloadPresent
            dsimp only
            split
            · exact fail _ (by simp)
            · rw [State.writeWord, doneSlot_setSlot]
              refine Moves.withDone ((Moves.here s).move (.cache s _ ?_)) (by exact take.1) _
              obtain ⟨l₁, l₂, split, h₁, he⟩ := first_of_find found
              rw [split, eraseP_split _ h₁ he]
              simpa [TcEntry.key] using (List.perm_middle.symm).subperm
          · next uncached =>
            unfold State.preloadWalk
            dsimp only
            split
            · next walked => exact (Moves.here s).move (.runs s n a _ _ take command aperture rfl walked)
            · next unwalked =>
              split
              · have unwalked : ∀ w ∈ s.walks, Walk.isFor a (s.apertures.get a).generation (slotWord (s.slots.get n) 1).toNat w = false := by
                  simpa using unwalked
                have new : Walk.isFor a (s.apertures.get a).generation (slotWord (s.slots.get n) 1).toNat
                    (newWalk a (s.apertures.get a).generation (slotWord (s.slots.get n) 1).toNat mapBase) = true := by
                  simp [Walk.isFor, newWalk]
                have runs := ((Moves.here s).move (.walkStarts s a g mapBase _ live mapped inPages (by simpa using uncached)
                  unwalked)).move (.runs _ n a (s.apertures.get a).generation _ take command aperture rfl (by
                    rw [List.any_append]
                    simp [new]))
                rwa [updateFirst_split _ _ unwalked new] at runs
              · exact fail _ (by simp)
        · exact fail _ (by simp)
    · exact fail _ (by simp)

theorem takeTcUnpin_moves {s : State} {n : SlotId} (take : s.takable n) : Moves s (s.takeTcUnpin n) := by
  unfold State.takeTcUnpin
  dsimp only
  split
  · exact (Moves.here s).failSlot take.1 (by simp)
  · split
    · refine ((Moves.here s).move (.cache s _ ?_)).doneSlot take.1
      rw [map_updateFirst]
      exact fun _ => rfl
    · exact (Moves.here s).failSlot take.1 (by simp)

theorem takeQueryTc_moves {s : State} {n : SlotId} (take : s.takable n) : Moves s (s.takeQueryTc n) := by
  unfold State.takeQueryTc
  dsimp only
  split
  · rw [doneSlot_setSlot]
    exact (Moves.here s).withDone take.1 _
  · exact (Moves.here s).failSlot take.1 (by simp)

/-! ### Completions, the window and resets -/

theorem completeIf_moves (s : State) (n : SlotId) (c : Command) : Moves s (s.completeIf n c) := by
  unfold State.completeIf
  split
  · next h =>
    obtain ⟨waiting, -, drained⟩ := h
    exact Moves.complete (by rw [setSlotState_self waiting]) drained
  · exact .refl

theorem endPreload_moves {s : State} {n : SlotId} (uncarried : ∀ w ∈ s.walks, ∀ pin, w.preload ≠ some (n, pin)) (o : PreloadEnd) :
    Moves s (s.endPreload n o) := by
  obtain ⟨running, words, st, code, q, ends, h⟩ | ⟨-, h⟩ := endPreload_cases s n o <;> rw [h]
  exact (Moves.here s).slot (.ends words st code q (.inr ⟨running, uncarried⟩) ends)

theorem partReset_moves (s : State) : Moves s s.partReset := ((Moves.here s).move (.reset s)).quiet rfl

theorem hostWriteAt_moves (s : State) (w : WindowWord) (v : Word) : Moves s (s.hostWriteAt w v) := by
  have refused : Moves s s.refuseWrite := moves_of_core rfl
  cases w with
  | id => exact .refl
  | control =>
    simp only [State.hostWriteAt, State.hostControl]
    split
    · exact partReset_moves s
    · exact moves_of_core rfl
  | intStatus => exact moves_of_core rfl
  | intEnable => exact moves_of_core rfl
  | responseLimit => exact moves_of_core rfl
  | slot n k =>
    simp only [State.hostWriteAt, State.hostWord, State.hostWord7, State.startSlot, State.ackSlot]
    split
    · split
      · exact (Moves.here s).slot (.words _ (.inl ‹_›))
      · exact refused
    · split
      · exact .refl
      · split
        · exact (Moves.here s).slot (.starts ‹_›)
        · exact refused
      · split
        · exact (Moves.here s).slot (.frees ‹_›)
        · exact refused
      · exact refused
  | unlisted => exact .refl

theorem hostWrite_moves (s : State) (w : WindowWord) (v : Word) : Moves s (s.hostWrite w v) := by
  unfold State.hostWrite
  split
  · exact .refl
  · exact hostWriteAt_moves s w v

theorem hostAccess_moves (s : State) (off : Nat) (bytes : List Byte) : Moves s (s.hostAccess off bytes) := by
  unfold State.hostAccess
  split
  · exact .refl
  · split
    · exact hostWriteAt_moves ..
    · split
      · exact moves_of_core rfl
      · exact .refl

end Sys2Proof.Machine

/-! ## Every step keeps the laws -/

namespace Sys2Proof.Machine

/-- Every command is a chain of moves. -/
theorem exec_moves {c : Instr} {s t : State} (h : exec c s = .next t) : Moves s t := by
  cases c with
  | arrival q =>
    cases h
    split
    · exact .refl
    · split
      · exact (Moves.here s).capture ..
      · exact (moves_of_core (s := s) (u := s.setLinkTag q.requester q.tag .busy) rfl).trans (checkArrival_moves ..)
  | linkReset =>
    cases h
    have emptied := (Moves.here s).narrow (walksNarrow_map (f := fun _ => []) fun w => List.nil_sublist _)
    refine (emptied.move (.entries _ s.pwq (s.rdt.map fun d => { d with discard := true })
      (fun e he => .inl ⟨e, he, rfl, rfl, fun _ h => h⟩) fun d hd => .inl ?_)).quiet rfl
    obtain ⟨d₀, hd₀, rfl⟩ := List.mem_map.1 hd
    exact ⟨d₀, hd₀, rfl, rfl, fun _ h => h⟩
  | partReset cause => cases cause <;> cases h <;> exact (partReset_moves s).quiet rfl
  | answer p a =>
    cases h
    split
    · exact .refl
    · exact moves_of_core rfl
    · exact (moves_of_core (s := s) (u := s.setPortTag p .free) rfl).trans (ownerTakes_moves ..)
  | expiry p =>
    cases h
    split
    · split
      · exact (moves_of_core (s := s) (u := s.setPortTag p .quarantined) rfl).trans (ownerTakes_moves ..)
      · exact .refl
    · exact .refl
    · exact .refl
  | grant p =>
    cases h
    split
    · exact arbitrate_moves s p
    · exact .refl
  | apSet => cases h; exact takeOf_moves fun n take _ => takeApSet_moves take
  | apRetire => cases h; exact takeOf_moves fun n take command => takeApRetire_moves take command
  | apInvalidate => cases h; exact takeOf_moves fun n take command => takeApInvalidate_moves take command
  | queryAperture => cases h; exact takeOf_moves fun n take _ => takeQueryAperture_moves take
  | reqEnable => cases h; exact takeOf_moves fun n take _ => takeRequester_moves take fun r _ => enable_moves take
  | reqDisable =>
    cases h
    exact takeOf_moves fun n take command => takeRequester_moves take fun r isRequester =>
      disable_moves take ⟨n, take, by simp [slotTarget, command], isRequester⟩
  | reqHalt =>
    cases h
    exact takeOf_moves fun n take command => takeRequester_moves take fun r isRequester => halt_moves take command isRequester
  | reqResume => cases h; exact takeOf_moves fun n take _ => takeRequester_moves take fun r _ => resume_moves take
  | faultClear => cases h; exact takeOf_moves fun n take _ => takeRequester_moves take fun r _ => clearFault_moves take
  | queryRequester => cases h; exact takeOf_moves fun n take _ => takeRequester_moves take fun r _ => queryRequester_moves take
  | tcPreload => cases h; exact takeOf_moves fun n take command => takeTcPreload_moves take command
  | tcUnpin => cases h; exact takeOf_moves fun n take _ => takeTcUnpin_moves take
  | queryTc => cases h; exact takeOf_moves fun n take _ => takeQueryTc_moves take
  | flush => cases h; exact takeOf_moves fun n take command => takeFlush_moves take command
  | badOp => cases h; exact takeOf_moves fun n take _ => (Moves.here s).failSlot take.1 (by simp)
  | apRetireCompletion n => cases h; exact completeIf_moves ..
  | apInvalidateCompletion n => cases h; exact completeIf_moves ..
  | flushCompletion n => cases h; exact completeIf_moves ..
  | reqHaltCompletion n => cases h; exact completeIf_moves ..
  | tcPreloadCompletion n o =>
    cases h
    split
    · next ready =>
      refine endPreload_moves (fun w hw pin hpre => ?_) o
      simpa [hpre] using List.any_eq_false.1 ready.2 w hw
    · exact .refl
  | start n v => cases h; exact hostWrite_moves ..
  | ack n v => cases h; exact hostWrite_moves ..
  | slotWordWrite n k v => cases h; exact hostWrite_moves ..
  | linkEnable v => cases h; exact hostWrite_moves ..
  | softReset v => cases h; exact hostWrite_moves ..
  | intStatusWrite v => cases h; exact hostWrite_moves ..
  | intEnableWrite v => cases h; exact hostWrite_moves ..
  | responseLimitWrite v => cases h; exact hostWrite_moves ..
  | registerWrite off bytes => cases h; exact hostAccess_moves ..
  | resetNRelease => cases h; exact moves_of_core rfl
  | word7Action3 n v => cases h; exact hostWrite_moves ..

theorem step_moves {s t : State} (h : step s = .next t) : Moves s t := by
  obtain ⟨c, rest, -, h⟩ | ⟨-, rfl⟩ := step_cases h
  · exact (moves_of_core (s := s) (u := { s with pending := rest }) rfl).trans (exec_moves h)
  · exact moves_of_core rfl

/-- What every move keeps, every step keeps. -/
theorem keptByStep_of_move {law : State → Prop} (kept : ∀ s t, Move s t → law s → law t) : KeptByStep law := by
  intro s t hs h
  have moves := step_moves h
  clear h
  induction moves with
  | refl => exact hs
  | tail _ m ih => exact kept _ _ m ih

/-- Settles O51: a move that touches a view puts a grant into its place or takes one out. -/
theorem everyStepKeepsTheViewsOrderedAndDisjoint : Obligations.EveryStepKeepsTheViewsOrderedAndDisjoint :=
  keptByStep_of_move fun _ _ => Move.apertureLaw

/-- Settles O52: retirements need the law of translations, which keeps the waiters of a walk on a LIVE aperture. -/
theorem everyStepKeepsTranslationsAndRetirementsSound : Obligations.EveryStepKeepsTranslationsAndRetirementsSound :=
  ⟨keptByStep_of_move fun _ _ => Move.translationLaw,
    keptByStep_of_move fun _ _ m ⟨translations, retirements⟩ => ⟨m.translationLaw translations, m.retireLaw translations retirements⟩⟩

/-- Settles O53: each law is kept by every move, next to the laws that it needs. -/
theorem everyStepKeepsCommandsAndHaltsSound : Obligations.EveryStepKeepsCommandsAndHaltsSound :=
  ⟨keptByStep_of_move fun _ _ => Move.commandLaw, keptByStep_of_move fun _ _ => Move.parkedLaw,
    keptByStep_of_move fun _ _ => Move.parkedFormLaw,
    keptByStep_of_move fun _ _ m ⟨views, waiters⟩ => ⟨m.apertureLaw views, m.waiterLaw views waiters⟩,
    keptByStep_of_move fun _ _ m ⟨translations, commands, preloads⟩ =>
      ⟨m.translationLaw translations, m.commandLaw commands, m.preloadLaw translations commands preloads⟩,
    keptByStep_of_move fun _ _ m ⟨commands, parked, halts⟩ =>
      ⟨m.commandLaw commands, m.parkedLaw parked, m.haltLaw commands parked halts⟩⟩

end Sys2Proof.Machine

/-! ## AP_SET -/

namespace Sys2Proof.Machine

theorem fieldAt_zero {w : Nat} (x : BitVec w) : fieldAt 0 x = x.setWidth 32 := by simp [fieldAt]

theorem execApSet_taken {s : State} {n : SlotId} (take : s.takes n (some .apSet)) : exec .apSet s = .next (s.takeApSet n) :=
  congrArg _ (takeOf_taken s.takeApSet take.1 take.2)

section Take

variable {s : State} {n : SlotId}

theorem takeApSet_badIndex (h : slotAperture (s.slots.get n) = none ∨ slotOwner (s.slots.get n) = none) :
    s.takeApSet n = s.withFailed n .badIndex := by
  unfold State.takeApSet
  dsimp only
  split
  · next ha ho => simp [ha, ho] at h
  · rfl

variable {a : ApIndex} {owner : RequesterId}

theorem takeApSet_of_live (aperture : slotAperture (s.slots.get n) = some a) (hasOwner : slotOwner (s.slots.get n) = some owner)
    {h : Grant} (live : (s.apertures.get a).life = .live h) : s.takeApSet n = s.withFailed n .notFree := by
  simp [State.takeApSet, aperture, hasOwner, live, failSlot_eq]

theorem takeApSet_of_retiring (aperture : slotAperture (s.slots.get n) = some a)
    (hasOwner : slotOwner (s.slots.get n) = some owner) {h : Grant} (retiring : (s.apertures.get a).life = .retiring h) :
    s.takeApSet n = s.withFailed n .busy := by
  simp [State.takeApSet, aperture, hasOwner, retiring, failSlot_eq]

theorem takeApSet_misaligned (aperture : slotAperture (s.slots.get n) = some a)
    (hasOwner : slotOwner (s.slots.get n) = some owner) (free : (s.apertures.get a).life = .free)
    (h : misaligned (s.slots.get n) = true) : s.takeApSet n = s.withFailed n .align := by
  simp [State.takeApSet, aperture, hasOwner, free, h, failSlot_eq]

theorem takeApSet_outOfRange (aperture : slotAperture (s.slots.get n) = some a)
    (hasOwner : slotOwner (s.slots.get n) = some owner) (free : (s.apertures.get a).life = .free)
    (h : misaligned (s.slots.get n) = false) (operands : grantOperands (s.slots.get n) owner = none) :
    s.takeApSet n = s.withFailed n .range := by
  simp [State.takeApSet, aperture, hasOwner, free, h, operands, failSlot_eq]

/-- Operands that describe a grant with legal fields come to the check for an overlap. -/
theorem takeApSet_of_describes (aperture : slotAperture (s.slots.get n) = some a) (free : (s.apertures.get a).life = .free)
    {g : Grant} (desc : describes (s.slots.get n) g) (fits : grantFits g) :
    s.takeApSet n = if s.overlapsView g then s.withFailed n .overlap else s.grantAperture n a g := by
  have aligned := describes_aligned desc fits
  have operands := (grantOperands_eq_some desc.1 aligned).2 ⟨desc, fits⟩
  simp [State.takeApSet, aperture, desc.1, free, aligned, operands, failSlot_eq]

end Take

theorem grantAperture_eq (s : State) (n : SlotId) (a : ApIndex) (g : Grant) :
    s.grantAperture n a g = State.withDone
      { s.withAperture a { generation := (s.apertures.get a).generation, life := .live g } with
        views := s.views.set g.owner.val (s.insertByBase g.linkBase.toNat a (s.views.get g.owner)) g.owner.isLt } n
      ((s.slots.get n).wordsWith 5 ((s.apertures.get a).generation.setWidth 32)) := by
  rw [← fieldAt_zero]
  exact doneSlot_setSlot _ n _

/-- Settles O20: the new aperture goes between the ranges that end at or below its base and those that begin behind its end. -/
theorem apSetMakesAFreeRecordLive : Obligations.ApSetMakesAFreeRecordLive := by
  intro s n a g law take aperture free desc fits apart
  have apart : s.overlapsView g = false := by
    rw [← Bool.not_eq_true, overlapsView_iff law fits]
    exact apart
  obtain ⟨l₁, l₂, view, inserted, below, above⟩ := law.insertByBase_view fits apart a
  refine ⟨l₁, l₂, view, fun i hi => ?_, fun i hi => ?_, ?_⟩
  · have nonempty := law.viewBase_lt_viewEnd (r := g.owner) (i := i) (by simp [view, hi])
    have := below i hi
    omega
  · have := above i hi
    have := fits.base_lt_end
    omega
  · rw [execApSet_taken take, takeApSet_of_describes aperture free desc fits, apart, grantAperture_eq, inserted]
    rfl

/-- Settles O21: each check stands behind those that pass. -/
theorem apSetRefusesByItsFirstFailedCheck : Obligations.ApSetRefusesByItsFirstFailedCheck := by
  intro s n law take
  rw [execApSet_taken take]
  refine ⟨fun h => congrArg _ (takeApSet_badIndex h), fun a aperture hasOwner => ?_⟩
  obtain ⟨owner, hasOwner⟩ := Option.ne_none_iff_exists'.1 hasOwner
  refine ⟨fun h live => congrArg _ (takeApSet_of_live aperture hasOwner live),
    fun h retiring => congrArg _ (takeApSet_of_retiring aperture hasOwner retiring),
    fun free => ⟨fun failed => ?_, fun link direct mapped none => ?_, fun g desc fits overlapped => ?_⟩⟩
  · refine congrArg _ (takeApSet_misaligned aperture hasOwner free ?_)
    by_contra aligned
    obtain ⟨link, direct, mapped⟩ := misaligned_eq_false.1 (by simpa using aligned)
    tauto
  · have aligned := misaligned_eq_false.2 ⟨link, direct, mapped⟩
    refine congrArg _ (takeApSet_outOfRange aperture hasOwner free aligned (Option.eq_none_iff_forall_ne_some.2 fun g operands => ?_))
    obtain ⟨desc, fits⟩ := (grantOperands_eq_some hasOwner aligned).1 operands
    exact none g desc fits
  · rw [takeApSet_of_describes aperture free desc fits, if_pos ((overlapsView_iff law fits).2 overlapped)]

end Sys2Proof.Machine

/-! ## QUERY_APERTURE, and the state after reset -/

namespace Sys2Proof.Machine

/-! ### Fields of a report word -/

theorem getLsbD_fieldAt {w : Nat} (p : Nat) (x : BitVec w) (i : Nat) :
    (fieldAt p x).getLsbD i = (decide (i < 32) && decide (p ≤ i) && x.getLsbD (i - p)) := by
  simp only [fieldAt, BitVec.getLsbD_shiftLeft, BitVec.getLsbD_setWidth]
  by_cases hi : i < 32
  · by_cases hp : p ≤ i
    · simp [hi, hp, show i - p < 32 by omega]
    · simp [hp, Nat.lt_of_not_ge hp]
  · simp [hi]

/-- A field reads back what was placed in it. -/
theorem extract_fieldAt {w p : Nat} (x : BitVec w) (h : p + w ≤ 32) : (fieldAt p x).extractLsb' p w = x := by
  ext i hi
  simp only [BitVec.getElem_extractLsb', getLsbD_fieldAt]
  simp [BitVec.getLsbD_eq_getElem hi]
  omega

/-- A field leaves the bits beside it clear. -/
theorem extract_fieldAt_beside {w p q l : Nat} (x : BitVec w) (h : q + l ≤ p ∨ p + w ≤ q) : (fieldAt p x).extractLsb' q l = 0 := by
  ext i hi
  simp only [BitVec.getElem_extractLsb', getLsbD_fieldAt]
  rcases h with h | h
  · simp; omega
  · have : x.getLsbD (q + i - p) = false := BitVec.getLsbD_of_ge x _ (by omega)
    simp [this]

theorem natAt_eq_fieldAt {n : Nat} (k p : Nat) (hn : n < 2 ^ k) (hk : k ≤ 32) : natAt p n = fieldAt p (BitVec.ofNat k n) := by
  have : 2 ^ k ≤ 2 ^ 32 := Nat.pow_le_pow_right (by omega) hk
  unfold natAt fieldAt
  congr 1
  apply BitVec.eq_of_toNat_eq
  simp [Nat.mod_eq_of_lt hn]

theorem append_extract (m : MemAddr) : m.extractLsb' 32 8 ++ m.extractLsb' 0 32 = m := by
  refine BitVec.eq_of_getLsbD_eq fun i hi => ?_
  rw [BitVec.getLsbD_append]
  by_cases low : i < 32
  · simp [low]
  · simp [low, show i - 32 < 8 by omega, show 32 + (i - 32) = i by omega]

theorem lifeCode_lt (l : ApLife) : lifeCode l < 2 ^ 2 := by cases l <;> simp [lifeCode]

theorem modeCode_lt (b : ApBase) : modeCode b < 2 ^ 2 := by cases b <;> simp [modeCode]

theorem accessCode_lt (x : Access) : accessCode x < 2 ^ 2 := by cases x <;> decide

theorem orderingCode_lt (o : ReadOrder) : orderingCode o < 2 ^ 2 := by cases o <;> decide

theorem inFlight_le {s : State} (law : CapacityLaw s) (a : ApIndex) : s.inFlight a ≤ 16 := by
  obtain ⟨-, -, -, -, writes, reads⟩ := law
  have := s.pwq.countP_le_length (p := fun e => decide (e.aperture = a))
  have := s.rdt.countP_le_length (p := fun d => decide (d.aperture = a))
  unfold State.inFlight
  omega

/-- Word 1 of the report of a record with a grant. -/
theorem apertureReport_w1 {a : Aperture} {g : Grant} (h : grantOf a = some g) (k : Nat) :
    ((apertureReport a k).w1.extractLsb' 0 2).toNat = lifeCode a.life ∧ ((apertureReport a k).w1.extractLsb' 2 2).toNat = modeCode g.base ∧
      ((apertureReport a k).w1.extractLsb' 4 2).toNat = accessCode g.access ∧
      ((apertureReport a k).w1.extractLsb' 6 2).toNat = orderingCode g.ordering ∧
      ((apertureReport a k).w1.extractLsb' 8 5).toNat = g.owner.val ∧ (apertureReport a k).w1.extractLsb' 16 16 = a.generation := by
  have life := lifeCode_lt a.life
  have mode := modeCode_lt g.base
  have access := accessCode_lt g.access
  have ordering := orderingCode_lt g.ordering
  have owner : g.owner.val < 2 ^ 5 := by omega
  simp only [apertureReport, h]
  rw [natAt_eq_fieldAt 2 0 life (by omega), natAt_eq_fieldAt 2 2 mode (by omega), natAt_eq_fieldAt 2 4 access (by omega),
    natAt_eq_fieldAt 2 6 ordering (by omega), natAt_eq_fieldAt 5 8 owner (by omega)]
  simp (disch := omega) only [BitVec.extractLsb'_or, extract_fieldAt, extract_fieldAt_beside]
  simp
  exact ⟨life, mode, access, ordering, owner⟩

/-- Word 3 of the report of a record with a grant: the pages and the in-flight count. -/
theorem apertureReport_w3 {a : Aperture} {g : Grant} (h : grantOf a = some g) {k : Nat} (hk : k ≤ 16) (pages : g.pages ≤ 65536) :
    ((apertureReport a k).w3.extractLsb' 0 17).toNat = g.pages ∧ ((apertureReport a k).w3.extractLsb' 24 5).toNat = k := by
  have hk : k < 2 ^ 5 := by omega
  have pages : g.pages < 2 ^ 17 := by omega
  simp only [apertureReport, h]
  rw [natAt_eq_fieldAt 17 0 pages (by omega), natAt_eq_fieldAt 5 24 hk (by omega)]
  simp (disch := omega) only [BitVec.extractLsb'_or, extract_fieldAt, extract_fieldAt_beside]
  simp
  exact ⟨pages, hk⟩

/-- The two base addresses of the report, their upper bytes in word 6. -/
theorem apertureReport_bases {a : Aperture} {g : Grant} (h : grantOf a = some g) (k : Nat) :
    (apertureReport a k).w6.extractLsb' 0 8 ++ (apertureReport a k).w4 = memBaseOf g.base ∧
      (apertureReport a k).w6.extractLsb' 8 8 ++ (apertureReport a k).w5 = mapBaseOf g.base := by
  simp only [apertureReport, h]
  simp (disch := omega) only [BitVec.extractLsb'_or, extract_fieldAt, extract_fieldAt_beside]
  simp only [BitVec.ofNat_eq_ofNat, BitVec.or_zero, BitVec.zero_or]
  exact ⟨append_extract _, append_extract _⟩

/-- The report of a FREE record: its generation and the in-flight count alone. -/
theorem apertureReport_of_none {a : Aperture} (h : grantOf a = none) {k : Nat} (hk : k ≤ 16) :
    apertureReport a k =
      { w1 := fieldAt 16 a.generation, w2 := 0, w3 := fieldAt 24 (BitVec.ofNat 5 k), w4 := 0, w5 := 0, w6 := 0 } := by
  simp [apertureReport, h, natAt_eq_fieldAt 5 24 (n := k) (by omega)]

theorem grantOf_eq_none {a : Aperture} : grantOf a = none ↔ a.life = .free := by
  cases h : a.life <;> simp [grantOf, h]

/-- The fields that every report has: the state, the generation and the in-flight count. -/
theorem apertureReport_common {a : Aperture} {k : Nat} (hk : k ≤ 16) (pages : ∀ g, grantOf a = some g → g.pages ≤ 65536) :
    ((apertureReport a k).w1.extractLsb' 0 2).toNat = lifeCode a.life ∧ (apertureReport a k).w1.extractLsb' 16 16 = a.generation ∧
      ((apertureReport a k).w3.extractLsb' 24 5).toNat = k := by
  cases h : grantOf a with
  | none =>
    have small : k < 2 ^ 5 := by omega
    simp (disch := omega) only [apertureReport_of_none h hk, grantOf_eq_none.1 h, extract_fieldAt, extract_fieldAt_beside, true_and]
    exact ⟨rfl, by simpa using small⟩
  | some g =>
    obtain ⟨life, -, -, -, -, generation⟩ := apertureReport_w1 h k
    exact ⟨life, generation, (apertureReport_w3 h hk (pages g h)).2⟩

/-! ### QUERY_APERTURE -/

theorem execQueryAperture_taken {s : State} {n : SlotId} {a : ApIndex} (take : s.takes n (some .queryAperture))
    (index : slotAperture (s.slots.get n) = some a) :
    exec .queryAperture s =
      .next (s.withDone n (withReport (s.slots.get n) (apertureReport (s.apertures.get a) (s.inFlight a))).words) := by
  have taken : exec .queryAperture s = .next (s.takeQueryAperture n) :=
    congrArg _ (takeOf_taken s.takeQueryAperture take.1 take.2)
  rw [taken, State.takeQueryAperture, index]
  dsimp only
  rw [doneSlot_setSlot]

/-- Settles O22: the report, word by word. -/
theorem queryApertureReportsTheRecord : Obligations.QueryApertureReportsTheRecord := by
  unfold Obligations.QueryApertureReportsTheRecord
  intro s n a capacity apertures take index
  have hk := inFlight_le capacity a
  have pages : ∀ g, grantOf (s.apertures.get a) = some g → g.pages ≤ 65536 := fun g h => (apertures.2.2 a g h).2.2.1
  obtain ⟨life, generation, inFlight⟩ := apertureReport_common hk pages
  refine ⟨_, execQueryAperture_taken take index, rfl, life, generation, inFlight, fun none => ?_, fun g some => ?_⟩
  · rw [apertureReport_of_none none hk]
    exact ⟨extract_fieldAt_beside _ (by omega), rfl, extract_fieldAt_beside _ (by omega), rfl, rfl, rfl⟩
  · obtain ⟨-, mode, access, ordering, owner, -⟩ := apertureReport_w1 some (s.inFlight a)
    obtain ⟨mem, map⟩ := apertureReport_bases some (s.inFlight a)
    have linkBase : (apertureReport (s.apertures.get a) (s.inFlight a)).w2 = g.linkBase := by simp [apertureReport, some]
    exact ⟨mode, access, ordering, owner, linkBase, (apertureReport_w3 some hk (pages g some)).1, mem, map⟩

/-! ### The state after reset -/

/-- Settles O3: each record of the reset state, read off its table. -/
theorem resetStateHoldsTheManualsValues : Obligations.ResetStateHoldsTheManualsValues := by
  unfold Obligations.ResetStateHoldsTheManualsValues
  refine ⟨fun a => by simp [State.reset], fun r => by simp [State.reset],
    fun r g => by simp [State.reset, State.linkTag], rfl, rfl, rfl, rfl, fun p => by simp [State.reset], rfl, rfl,
    fun n => by simp [State.reset, slotWord], rfl, rfl, rfl, rfl, by decide, by decide⟩

end Sys2Proof.Machine

/-! ## Arrivals that are translated -/

namespace Sys2Proof.Machine

/-! ### The request with its enables masked -/

@[simp] theorem maskEnables_requester (q : Request) : (maskEnables q).requester = q.requester := by unfold maskEnables; split <;> rfl

@[simp] theorem maskEnables_tag (q : Request) : (maskEnables q).tag = q.tag := by unfold maskEnables; split <;> rfl

@[simp] theorem maskEnables_addr (q : Request) : (maskEnables q).addr = q.addr := by unfold maskEnables; split <;> rfl

@[simp] theorem maskEnables_length (q : Request) : (maskEnables q).length = q.length := by unfold maskEnables; split <;> rfl

@[simp] theorem maskEnables_direction (q : Request) : direction (maskEnables q) = direction q := by
  cases h : q.payload <;> simp [maskEnables, direction, h]

theorem maskEnables_of_write {q : Request} {en : BitVec 64} {data : List Byte} (h : q.payload = .write en data) :
    (maskEnables q).payload = .write (en &&& rangeMask q) data := by simp [maskEnables, h]

theorem maskEnables_of_read {q : Request} (h : q.payload = .read) : maskEnables q = q := by simp [maskEnables, h]

theorem direction_eq_write {q : Request} : direction q = .write ↔ ∃ en data, q.payload = .write en data := by
  cases h : q.payload <;> simp [direction, h]

theorem direction_eq_read {q : Request} : direction q = .read ↔ q.payload = .read := by
  cases h : q.payload <;> simp [direction, h]

theorem inOneLine_iff {q : Request} :
    inOneLine q = true ↔ 1 ≤ q.length.toNat ∧ q.length.toNat ≤ 64 ∧ q.addr.toNat % 64 + q.length.toNat ≤ 64 := by
  simp [inOneLine, and_assoc]

/-- The lowest bits set: no borrow is left over even where all 64 are. -/
theorem toNat_lowBits {n : Nat} (h : n ≤ 64) : (1#64 <<< n - 1#64).toNat = 2 ^ n - 1 := by
  rcases Nat.lt_or_eq_of_le h with lt | rfl
  · have small : 2 ^ n < 2 ^ 64 := Nat.pow_lt_pow_right (by omega) lt
    have pos : 0 < 2 ^ n := Nat.two_pow_pos n
    simp only [BitVec.toNat_sub, BitVec.toNat_shiftLeft, BitVec.toNat_ofNat, Nat.one_mod, Nat.one_shiftLeft]
    omega
  · decide

/-- The range mask has the bits of the request's bytes. -/
theorem getLsbD_rangeMask {q : Request} (line : inOneLine q = true) (k : Fin 64) :
    (rangeMask q).getLsbD k.val =
      (decide (q.addr.toNat % 64 ≤ k.val) && decide (k.val < q.addr.toNat % 64 + q.length.toNat)) := by
  obtain ⟨-, len, -⟩ := inOneLine_iff.1 line
  have low : (1#64 <<< q.length.toNat - 1#64).getLsbD (k.val - q.addr.toNat % 64) =
      decide (k.val - q.addr.toNat % 64 < q.length.toNat) := by
    rw [BitVec.getLsbD, toNat_lowBits len, Nat.testBit_two_pow_sub_one]
  rw [rangeMask, BitVec.getLsbD_shiftLeft, low, Bool.eq_iff_iff]
  simp only [Bool.and_eq_true, Bool.not_eq_true', decide_eq_true_eq, decide_eq_false_iff_not]
  omega

/-! ### The tag of an arrival -/

theorem setLinkTag_setLinkTag (s : State) (r : RequesterId) (t : LinkTag) (x y : TagState) :
    (s.setLinkTag r t x).setLinkTag r t y = s.setLinkTag r t y := by simp [State.setLinkTag]

theorem setLinkTag_self {s : State} {r : RequesterId} {t : LinkTag} {x : TagState} (h : s.linkTag r t = x) :
    s.setLinkTag r t x = s := by
  subst h
  simp [State.setLinkTag, State.linkTag]

/-- The tag of an arrival that is answered at once is FREE before and after. -/
theorem respond_eq_withSent {s u : State} {r : RequesterId} {t : LinkTag} (free : s.linkTag r t = .free)
    (busy : u.linkTags = (s.setLinkTag r t .busy).linkTags) (x : LinkReply) :
    u.respond r t x = { u with linkTags := s.linkTags }.withSent r t x := by
  have restored : (u.setLinkTag r t .free).linkTags = s.linkTags := calc
    _ = ((s.setLinkTag r t .busy).setLinkTag r t .free).linkTags := by simp only [State.setLinkTag, busy]
    _ = s.linkTags := by rw [setLinkTag_setLinkTag, setLinkTag_self free]
  rw [respond_frame]
  simp [State.withSent, State.respond, restored]

/-- An arrival that passes the checks is translated, with its tag BUSY. -/
theorem execArrival_of_passes {s : State} {q : Request} {a : ApIndex} {g : Grant} (h : s.passes q a g) :
    exec (.arrival q) s = .next ((s.setLinkTag q.requester q.tag .busy).translate a g (maskEnables q)) := by
  obtain ⟨high, free, line, enable, enabled, found, permitted⟩ := h
  have found : (s.setLinkTag q.requester q.tag .busy).lookup q.requester q.addr = some (a, g) := found
  have run : exec (.arrival q) s = execArrival q s := rfl
  simp [run, execArrival, State.checkArrival, State.checkAdmission, admission, high, free, line, enable, enabled, found, permitted]

/-! ### Translation (R11, R13, R72) -/

theorem directAddr_toNat {b : MemAddr} {g : Grant} {x : LinkAddr} (fits : b.toNat + g.pages * 4096 ≤ 2 ^ 40)
    (range : inRange g x = true) : (directAddr b g x).toNat = b.toNat + (x.toNat - g.linkBase.toNat) := by
  obtain ⟨low, high⟩ := inRange_iff.1 range
  rw [rangeEnd] at high
  have := x.isLt
  simp only [directAddr, BitVec.toNat_add, BitVec.toNat_setWidth, BitVec.toNat_sub_of_le (BitVec.le_def.2 low)]
  omega

theorem frameAddr_toNat (f : Frame) (x : LinkAddr) : (frameAddr f x).toNat = f.toNat * 4096 + x.toNat % 4096 := by
  simp only [frameAddr, BitVec.toNat_append, BitVec.extractLsb'_toNat, Nat.shiftRight_zero, Nat.reducePow]
  rw [← Nat.shiftLeft_add_eq_or_of_lt (by omega), Nat.shiftLeft_eq]

section Mapped

variable {s : State} {q : Request} {a : ApIndex} {g : Grant} {mb : MemAddr}

/-- The entry that serves a request moves to the head of the cache. -/
theorem translate_of_hits {l₁ l₂ : List TcEntry} {e : TcEntry} (mapped : g.base = .mapped mb) (h : s.hits q a g l₁ e l₂) :
    s.translate a g q = { s with tc := e :: (l₁ ++ l₂) }.hit a g e q := by
  obtain ⟨cache, before, isFor⟩ := h
  have found : s.tc.find? (TcEntry.isFor a (s.apertures.get a).generation (linkPage g q.addr)) = some e := by
    rw [cache, find_split _ before isFor]
  have moved : toHead (TcEntry.isFor a (s.apertures.get a).generation (linkPage g q.addr)) s.tc = e :: (l₁ ++ l₂) := by
    rw [cache, toHead_split before isFor]
  simp only [State.translate, mapped, found, moved]

theorem translate_of_uncached (mapped : g.base = .mapped mb)
    (uncached : ∀ e ∈ s.tc, TcEntry.isFor a (s.apertures.get a).generation (linkPage g q.addr) e = false) :
    s.translate a g q = s.miss a (s.apertures.get a).generation (linkPage g q.addr) mb q := by
  simp only [State.translate, mapped, find_none _ uncached]

end Mapped

/-- A request that is translated comes to the capacity check with the cache as the hit leaves it. -/
theorem translate_of_translates {s : State} {q : Request} {a : ApIndex} {g : Grant} {m : MemAddr} {tc : List TcEntry}
    (fits : baseFits g) (range : inRange g q.addr = true) (h : s.translates q a g m tc) :
    s.translate a g q = { s with tc := tc }.enter a g.ordering m q := by
  unfold State.translates at h
  split at h
  · next b direct =>
    simp only [baseFits, direct] at fits
    obtain ⟨addr, rfl⟩ := h
    simp only [State.translate, direct]
    rw [BitVec.eq_of_toNat_eq ((directAddr_toNat fits.2 range).trans addr.symm)]
  · next b mapped =>
    obtain ⟨l₁, e, l₂, hits, rfl, permitted, addr⟩ := h
    rw [translate_of_hits mapped hits, State.hit, if_pos permitted,
      BitVec.eq_of_toNat_eq ((frameAddr_toNat e.frame q.addr).trans addr.symm)]

/-- An arrival at the capacity check: its tag is BUSY and the cache is as the translation left it. -/
def State.translated (s : State) (q : Request) (tc : List TcEntry) : State :=
  { s.setLinkTag q.requester q.tag .busy with tc := tc }

theorem execArrival_of_translates {s : State} {q : Request} {a : ApIndex} {g : Grant} {m : MemAddr} {tc : List TcEntry}
    (law : ApertureLaw s) (pass : s.passes q a g) (h : s.translates q a g m tc) :
    exec (.arrival q) s = .next ((s.translated q tc).enter a g.ordering m (maskEnables q)) := by
  obtain ⟨-, -, -, -, -, found, -⟩ := id pass
  obtain ⟨-, live, range⟩ := lookup_eq_some found
  obtain ⟨-, -, -, -, fits⟩ := law.2.2 a g (grantOf_of_live live)
  have h : (s.setLinkTag q.requester q.tag .busy).translates (maskEnables q) a g m tc := by
    simpa [State.translates, State.hits] using h
  rw [execArrival_of_passes pass, translate_of_translates fits (by simpa using range) h, State.translated]

/-! ### The capacity check (R57) -/

section Enter

variable {s : State} {q : Request} (a : ApIndex) (ord : ReadOrder) (m : MemAddr)

theorem enter_write {en : BitVec 64} {data : List Byte} (write : q.payload = .write en data) (room : s.pwq.length < 8) :
    s.enter a ord m q = (s.postWrite a m q en data).respond q.requester q.tag .accept := by
  simp only [State.enter, write]
  exact if_pos room

theorem enter_write_full {en : BitVec 64} {data : List Byte} (write : q.payload = .write en data) (full : 8 ≤ s.pwq.length) :
    s.enter a ord m q = s.respond q.requester q.tag (.retry .queueFull) := by
  simp only [State.enter, write]
  exact if_neg (Nat.not_lt.2 full)

theorem enter_read (read : q.payload = .read) (room : s.rdt.length < 8) : s.enter a ord m q = s.trackRead a ord m q := by
  simp only [State.enter, read]
  exact if_pos room

theorem enter_read_full (read : q.payload = .read) (full : 8 ≤ s.rdt.length) :
    s.enter a ord m q = s.respond q.requester q.tag (.retry .trackerFull) := by
  simp only [State.enter, read]
  exact if_neg (Nat.not_lt.2 full)

end Enter

/-! ### WRITE -/

theorem isPostedWrite_newWrite {s : State} {q : Request} {en : BitVec 64} {data : List Byte} (write : q.payload = .write en data)
    (line : inOneLine q = true) (a : ApIndex) (m : MemAddr) :
    IsPostedWrite (newWrite s.nextSeq a m (maskEnables q) (en &&& rangeMask q) data) s q a m := by
  refine ⟨en, data, write, maskEnables_requester q, rfl, maskEnables_addr q, congrArg BitVec.toNat (maskEnables_length q), rfl, rfl, rfl,
    emptyMarks_get, rfl, fun k => ?_⟩
  have enables : (newWrite s.nextSeq a m (maskEnables q) (en &&& rangeMask q) data).enables = en &&& rangeMask q := rfl
  rw [enables, BitVec.getLsbD_and, getLsbD_rangeMask line, Bool.and_assoc]

/-- Settles O10: the translated write comes to the capacity check, where its tag is freed by either answer. -/
theorem translatedWriteIsPostedOrToldQueueFull : Obligations.TranslatedWriteIsPostedOrToldQueueFull := by
  unfold Obligations.TranslatedWriteIsPostedOrToldQueueFull
  intro s q a g m tc law pass write translated
  obtain ⟨en, data, payload⟩ := direction_eq_write.1 write
  obtain ⟨-, free, line, -⟩ := id pass
  rw [execArrival_of_translates law pass translated]
  refine ⟨fun room => ⟨_, isPostedWrite_newWrite payload line a m, congrArg _ ?_⟩, fun full => congrArg _ ?_⟩
  · rw [enter_write (s := s.translated q tc) a g.ordering m (maskEnables_of_write payload) room, maskEnables_requester,
      maskEnables_tag]
    exact respond_eq_withSent free (by rfl) _
  · rw [enter_write_full (s := s.translated q tc) a g.ordering m (maskEnables_of_write payload) full, maskEnables_requester,
      maskEnables_tag]
    exact respond_eq_withSent free (by rfl) _

/-! ### READ -/

theorem memLine_toNat (m : MemAddr) : (memLine m).toNat = m.toNat / 64 * 64 := by
  have := m.isLt
  simp only [memLine, BitVec.toNat_shiftLeft, BitVec.toNat_ushiftRight, Nat.shiftLeft_eq, Nat.shiftRight_eq_div_pow]
  omega

theorem memLine_eq_iff {m m' : MemAddr} : memLine m = memLine m' ↔ m.toNat / 64 = m'.toNat / 64 := by
  rw [← BitVec.toNat_inj, memLine_toNat, memLine_toNat]
  omega

theorem holdsRead_iff {ord : ReadOrder} {r : RequesterId} {m : MemAddr} {e : PostedWrite} :
    holdsRead ord r m e = true ↔ e.requester = r ∧ (ord = .line → e.memAddr.toNat / 64 = m.toNat / 64) := by
  cases ord <;> simp [holdsRead, memLine_eq_iff]

theorem mem_holdingWrites {s : State} {ord : ReadOrder} {r : RequesterId} {m : MemAddr} {k : Nat} :
    k ∈ s.holdingWrites ord r m ↔
      ∃ e ∈ s.pwq, e.seq = k ∧ e.requester = r ∧ (ord = .line → e.memAddr.toNat / 64 = m.toNat / 64) := by
  simp only [State.holdingWrites, List.mem_map, List.mem_filter, holdsRead_iff]
  exact ⟨fun ⟨e, ⟨he, holds⟩, seq⟩ => ⟨e, he, seq, holds⟩, fun ⟨e, he, seq, holds⟩ => ⟨e, ⟨he, holds⟩, seq⟩⟩

theorem isTrackedRead_newRead (s : State) (q : Request) (a : ApIndex) (ord : ReadOrder) (m : MemAddr) :
    IsTrackedRead (newRead s.nextSeq a ord m q (s.holdingWrites ord q.requester m)) s q a ord m :=
  ⟨rfl, rfl, rfl, rfl, rfl, rfl, rfl, rfl, emptyMarks_get, rfl, fun _ => mem_holdingWrites, rfl⟩

/-- Settles O11: a tracked read keeps its tag BUSY, a refused one frees it. -/
theorem translatedReadIsTrackedOrToldTrackerFull : Obligations.TranslatedReadIsTrackedOrToldTrackerFull := by
  unfold Obligations.TranslatedReadIsTrackedOrToldTrackerFull
  intro s q a g m tc law pass read translated
  have payload := direction_eq_read.1 read
  obtain ⟨-, free, -⟩ := id pass
  rw [execArrival_of_translates law pass translated, maskEnables_of_read payload]
  refine ⟨fun room => ⟨_, isTrackedRead_newRead s q a g.ordering m, congrArg _ ?_⟩, fun full => congrArg _ ?_⟩
  · rw [enter_read (s := s.translated q tc) a g.ordering m payload room]
    rfl
  · rw [enter_read_full (s := s.translated q tc) a g.ordering m payload full]
    exact respond_eq_withSent free (by rfl) _

end Sys2Proof.Machine

/-! ## Arrivals of a MAPPED aperture that the cache does not serve -/

namespace Sys2Proof.Machine

/-! ### A miss at the walker (R58, R91, R92) -/

section Miss

variable {s : State} {a : ApIndex} {gen : Generation} {page : Nat} {q : Request}

/-- A request that has a walk is parked at the end of that walk's waiters, or told PARK_FULL. -/
theorem park_of_first {l₁ l₂ : List Walk} {w : Walk} (first : FirstOf (Walk.isFor a gen page) s.walks l₁ w l₂) :
    s.park a gen page q =
      if s.parkedCount < 8 then { s with walks := l₁ ++ { w with waiters := w.waiters ++ [q] } :: l₂ }
      else s.respond q.requester q.tag (.retry .parkFull) := by
  obtain ⟨walks, before, isFor⟩ := first
  rw [← updateFirst_split (Walk.isFor a gen page) (fun w : Walk => { w with waiters := w.waiters ++ [q] }) before isFor, ← walks]
  rfl

theorem miss_joins (mapBase : MemAddr) {l₁ l₂ : List Walk} {w : Walk}
    (first : FirstOf (Walk.isFor a gen page) s.walks l₁ w l₂) : s.miss a gen page mapBase q = s.park a gen page q := by
  obtain ⟨walks, -, isFor⟩ := first
  have walked : s.walks.any (Walk.isFor a gen page) = true := List.any_eq_true.2 ⟨w, by simp [walks], isFor⟩
  rw [State.miss, if_pos walked]

theorem not_any_of_unwalked (unwalked : ∀ w ∈ s.walks, Walk.isFor a gen page w = false) :
    ¬s.walks.any (Walk.isFor a gen page) = true := by
  rw [List.any_eq_true]
  rintro ⟨w, hw, isFor⟩
  simp [unwalked w hw] at isFor

theorem miss_full (mapBase : MemAddr) (unwalked : ∀ w ∈ s.walks, Walk.isFor a gen page w = false) (full : 4 ≤ s.walks.length) :
    s.miss a gen page mapBase q = s.respond q.requester q.tag (.retry .walkBusy) := by
  rw [State.miss, if_neg (not_any_of_unwalked unwalked)]
  exact if_neg (Nat.not_lt.2 full)

/-- A miss on a page that no walk is for starts one, which parks the request as its first waiter or none. -/
theorem miss_starts (mapBase : MemAddr) (unwalked : ∀ w ∈ s.walks, Walk.isFor a gen page w = false) (room : s.walks.length < 4) :
    s.miss a gen page mapBase q =
      if s.parkedCount < 8 then { s with walks := s.walks ++ [{ newWalk a gen page mapBase with waiters := [q] }] }
      else { s with walks := s.walks ++ [newWalk a gen page mapBase] }.respond q.requester q.tag (.retry .parkFull) := by
  have first : FirstOf (Walk.isFor a gen page) (s.walks ++ [newWalk a gen page mapBase]) s.walks (newWalk a gen page mapBase) [] :=
    ⟨rfl, unwalked, Walk.isFor_iff.2 ⟨rfl, rfl, rfl, rfl⟩⟩
  have count : { s with walks := s.walks ++ [newWalk a gen page mapBase] }.parkedCount = s.parkedCount := by
    simp [State.parkedCount, newWalk]
  have started : s.miss a gen page mapBase q =
      { s with walks := s.walks ++ [newWalk a gen page mapBase] }.park a gen page q := by
    rw [State.miss, if_neg (not_any_of_unwalked unwalked)]
    exact if_pos room
  rw [started, park_of_first (s := { s with walks := s.walks ++ [newWalk a gen page mapBase] }) first, count]
  rfl

end Miss

/-! ### The arrival -/

section Arrival

variable {s : State} {q : Request} {a : ApIndex} {g : Grant} {mb : MemAddr}

theorem execArrival_of_refused (pass : s.passes q a g) (mapped : g.base = .mapped mb) {l₁ l₂ : List TcEntry} {e : TcEntry}
    (hits : s.hits q a g l₁ e l₂) (refused : pagePermits e.readable e.writable (direction q) = false) :
    exec (.arrival q) s = .next
      (({ s with tc := e :: (l₁ ++ l₂) }.withSent q.requester q.tag (.abort .permission)).capture q.requester
        (.permission (direction q) q.addr a)) := by
  have hits : (s.setLinkTag q.requester q.tag .busy).hits (maskEnables q) a g l₁ e l₂ := by simpa [State.hits] using hits
  have refused : ¬pagePermits e.readable e.writable (direction (maskEnables q)) = true := by simp [refused]
  obtain ⟨-, free, -⟩ := id pass
  rw [execArrival_of_passes pass, translate_of_hits mapped hits, State.hit, if_neg refused, maskEnables_requester, maskEnables_tag,
    maskEnables_direction, maskEnables_addr]
  refine congrArg _ (congrArg (State.capture · q.requester _) ?_)
  exact respond_eq_withSent free (by rfl) _

theorem execArrival_of_uncached (pass : s.passes q a g) (mapped : g.base = .mapped mb)
    (uncached : ∀ e ∈ s.tc, TcEntry.isFor a (s.apertures.get a).generation (linkPage g q.addr) e = false) :
    exec (.arrival q) s = .next ((s.setLinkTag q.requester q.tag .busy).miss a (s.apertures.get a).generation (linkPage g q.addr) mb
      (maskEnables q)) := by
  rw [execArrival_of_passes pass, translate_of_uncached mapped (by simpa using uncached), maskEnables_addr,
    State.setLinkTag_apertures]

end Arrival

/-- Settles O12: the hit that refuses, and the three ways of a miss. -/
theorem mappedRequestIsRefusedOrParkedOnAWalk : Obligations.MappedRequestIsRefusedOrParkedOnAWalk := by
  unfold Obligations.MappedRequestIsRefusedOrParkedOnAWalk
  intro s q a g mb pass mapped
  obtain ⟨-, free, -⟩ := id pass
  refine ⟨fun l₁ e l₂ hits refused => execArrival_of_refused pass mapped hits refused, fun uncached => ?_⟩
  rw [execArrival_of_uncached pass mapped uncached]
  refine ⟨fun l₁ w l₂ first => congrArg _ ?_, fun unwalked => ⟨fun full => congrArg _ ?_, fun room => ?_⟩⟩
  · rw [miss_joins (s := s.setLinkTag q.requester q.tag .busy) mb first,
      park_of_first (s := s.setLinkTag q.requester q.tag .busy) first, maskEnables_requester, maskEnables_tag]
    exact if_congr Iff.rfl rfl (respond_eq_withSent free (by rfl) _)
  · rw [miss_full (s := s.setLinkTag q.requester q.tag .busy) mb unwalked full, maskEnables_requester, maskEnables_tag]
    exact respond_eq_withSent free (by rfl) _
  · refine ⟨newWalk a (s.apertures.get a).generation (linkPage g q.addr) mb, rfl, rfl, rfl, rfl, rfl, rfl, rfl, congrArg _ ?_⟩
    rw [miss_starts (s := s.setLinkTag q.requester q.tag .busy) mb unwalked room, maskEnables_requester, maskEnables_tag]
    exact if_congr Iff.rfl rfl (respond_eq_withSent free (by rfl) _)

end Sys2Proof.Machine

/-! ## Every step keeps the fault counts -/

namespace Sys2Proof.Machine

/-- A fault count as R34 has it: at most 255, and 0 exactly without a first fault. -/
def Requester.counted (q : Requester) : Prop := q.faultCount ≤ 255 ∧ (q.faultCount = 0 ↔ q.firstFault = none)

theorem recordFault_counted {q : Requester} (h : q.counted) (f : FaultRecord) : (recordFault q f).counted := by
  obtain ⟨most, zero⟩ := h
  unfold recordFault Requester.counted
  split
  · simp
  · next held => simp [held]

/-- The law speaks of the requester records alone. -/
theorem FaultCountLaw.of_requesters {s t : State} (law : FaultCountLaw s) (same : t.requesters = s.requesters) :
    FaultCountLaw t := fun r => by
  rw [same]
  exact law r

theorem FaultCountLaw.setRequester {s : State} (law : FaultCountLaw s) (r : RequesterId) {x : Requester} (counted : x.counted) :
    FaultCountLaw (s.setRequester r x) := fun r' => by
  rw [State.setRequester_get]
  split
  · exact counted
  · exact law r'

theorem faultCountLaw_reset : FaultCountLaw State.reset := fun r => by simp [State.reset]

@[simp] theorem orphan_requesters (s : State) (p : Walk → Bool) (x : LinkReply) : (s.orphan p x).requesters = s.requesters := by
  rw [orphan_frame]

@[simp] theorem mark_requesters (s : State) (n : SlotId) (pw : PostedWrite → Bool) (pr : ReadEntry → Bool) :
    (s.mark n pw pr).requesters = s.requesters := rfl

section Counts

variable {s : State} (law : FaultCountLaw s)

include law

/-! ### The shared operations -/

theorem FaultCountLaw.release (r : RequesterId) (x : LinkReply) : FaultCountLaw (s.release r x) :=
  law.of_requesters (by rw [release_frame])

theorem FaultCountLaw.capture (r : RequesterId) (f : FaultRecord) : FaultCountLaw (s.capture r f) := fun r' => by
  rw [capture_requester]
  split
  · exact recordFault_counted (law r) f
  · exact law r'

/-- A request is answered ABORT and its fault captured. -/
theorem FaultCountLaw.aborted (q : Request) (x : LinkReply) (f : FaultRecord) :
    FaultCountLaw ((s.respond q.requester q.tag x).capture q.requester f) :=
  FaultCountLaw.capture (s := s.respond q.requester q.tag x) law q.requester f

theorem FaultCountLaw.enter (a : ApIndex) (ord : ReadOrder) (m : MemAddr) (q : Request) : FaultCountLaw (s.enter a ord m q) :=
  law.of_requesters (by rw [enter_frame])

theorem FaultCountLaw.completeHalt (n : SlotId) : FaultCountLaw (s.completeHalt n) := by
  unfold State.completeHalt
  split
  · exact law
  · split
    · exact law.setRequester _ (law _)
    · exact law

theorem FaultCountLaw.complete (n : SlotId) : FaultCountLaw (s.complete n) := by
  unfold State.complete
  split
  · exact law.of_requesters (by rw [State.doneSlot_requesters, completeRetire_frame])
  · exact (law.completeHalt n).of_requesters rfl
  · exact law.of_requesters rfl

theorem FaultCountLaw.waitOrComplete {u : State} (same : u.requesters = s.requesters) (n : SlotId) :
    FaultCountLaw (u.waitOrComplete n) := by
  have law : FaultCountLaw u := law.of_requesters same
  unfold State.waitOrComplete
  split
  · exact law.of_requesters rfl
  · exact law.complete n

theorem FaultCountLaw.tell (lost : Bool) (n : SlotId) : FaultCountLaw (s.tell lost n) := by
  have completed : ∀ {u : State}, FaultCountLaw u → FaultCountLaw (if u.bears n then u else u.complete n) := fun h => by
    split
    · exact h
    · exact h.complete n
  unfold State.tell
  split
  · cases lost
    · exact completed law
    · exact completed (u := s.countLoss n) (law.of_requesters (by rw [countLoss_frame]))
  · exact law

theorem FaultCountLaw.tellAll (lost : Bool) (marks : MarkSet) (ns : List SlotId) : FaultCountLaw (s.tellAll lost marks ns) := by
  induction ns generalizing s with
  | nil => exact law
  | cons n ns ih =>
    refine ih ?_
    split
    · exact law.tell lost n
    · exact law

/-! ### Departures -/

theorem FaultCountLaw.departWrite (t : PortTagId) (o : PortOutcome) : FaultCountLaw (s.departWrite t o) := by
  unfold State.departWrite
  split
  · exact law
  · next e _ =>
    have left : FaultCountLaw { s with pwq := s.pwq.eraseP (PostedWrite.holdsTag t), rdt := s.rdt.map (freeRead e.seq) } := law
    dsimp only
    split
    · exact left.tellAll _ _ _
    · exact (left.capture _ _).tellAll _ _ _

theorem FaultCountLaw.departRead (t : PortTagId) (o : PortOutcome) : FaultCountLaw (s.departRead t o) := by
  unfold State.departRead
  split
  · exact law
  · next d _ =>
    have answered : FaultCountLaw (State.answerRead { s with rdt := s.rdt.eraseP (ReadEntry.holdsTag t) } d o) :=
      law.of_requesters (by rw [answerRead_frame])
    dsimp only
    split
    · exact answered.tellAll _ _ _
    · exact (answered.capture _ _).tellAll _ _ _

theorem FaultCountLaw.endPreloadOf (w : Walk) (o : PreloadEnd) : FaultCountLaw (s.endPreloadOf w o) :=
  law.of_requesters (by rw [endPreloadOf_frame])

theorem FaultCountLaw.resumeWaiter (pe : PageEntry) (w : Walk) (p : Request) : FaultCountLaw (State.resumeWaiter pe w p s) := by
  unfold State.resumeWaiter
  split
  · exact law.enter _ _ _ _
  · exact law.aborted _ _ _

/-- Turns that each keep the law keep it together, and the walk's end with them. -/
theorem FaultCountLaw.finished {t : PortTagId} {finish : Walk → Request → State → State}
    (turn : ∀ w p u, FaultCountLaw u → FaultCountLaw (finish w p u)) (k : Nat) :
    FaultCountLaw ((State.finishWaiters t finish k s).removeWalk t) :=
  FaultCountLaw.of_requesters
    (finishWaiters_keeps FaultCountLaw (fun _ w p _ kept _ _ => turn w p _ (kept.of_requesters rfl)) k s law) rfl

theorem FaultCountLaw.completeWalk (t : PortTagId) (w : Walk) (o : PortOutcome) : FaultCountLaw (s.completeWalk t w o) := by
  have resumed : ∀ pe w p u, FaultCountLaw u → FaultCountLaw (State.resumeWaiter pe w p u) := fun pe w p _ h => h.resumeWaiter pe w p
  have noPage : ∀ w p u, FaultCountLaw u → FaultCountLaw (State.noPageWaiter w p u) := fun _ p _ h => h.aborted p _ _
  have failed : ∀ q w p u, FaultCountLaw u → FaultCountLaw (State.walkErrorWaiter q w p u) := fun _ _ p _ h => h.aborted p _ _
  unfold State.completeWalk
  split
  · next data =>
    have used : FaultCountLaw (s.useFree Config.pageEntryBytes data) := law
    dsimp only
    split
    · exact (FaultCountLaw.endPreloadOf (s := State.install (s.useFree Config.pageEntryBytes data) w _) used _ _).finished (resumed _) _
    · exact (used.endPreloadOf _ _).finished noPage _
  · exact (law.endPreloadOf _ _).finished (failed _) _
  · exact (law.endPreloadOf _ _).finished (failed _) _

theorem FaultCountLaw.departWalk (t : PortTagId) (o : PortOutcome) : FaultCountLaw (s.departWalk t o) := by
  unfold State.departWalk
  split
  · exact law
  · split
    · exact law.of_requesters rfl
    · exact law.completeWalk _ _ _

theorem FaultCountLaw.ownerTakes (t : PortTagId) (k : PortKind) (o : PortOutcome) : FaultCountLaw (s.ownerTakes t k o) := by
  cases k with
  | walk => exact law.departWalk t o
  | write => exact law.departWrite t o
  | read => exact law.departRead t o

/-! ### The commands -/

theorem FaultCountLaw.translate (a : ApIndex) (g : Grant) (q : Request) : FaultCountLaw (s.translate a g q) := by
  unfold State.translate
  split
  · exact law.enter _ _ _ _
  · dsimp only
    split
    · unfold State.hit
      have headed : ∀ tc, FaultCountLaw { s with tc := tc } := fun _ => law
      split
      · exact (headed _).enter _ _ _ _
      · exact (headed _).aborted _ _ _
    · exact law.of_requesters (by rw [miss_frame])

theorem FaultCountLaw.checkArrival (q : Request) : FaultCountLaw (s.checkArrival q) := by
  unfold State.checkArrival
  split
  · split
    · unfold State.checkAdmission
      split
      · exact law.of_requesters rfl
      · split
        · exact law.aborted _ _ _
        · split
          · exact law.translate _ _ _
          · exact law.aborted _ _ _
    · exact law.of_requesters rfl
  · exact law.aborted _ _ _

theorem FaultCountLaw.takeOf {c : Option Command} {body : SlotId → State} (taken : ∀ n, FaultCountLaw (body n)) :
    FaultCountLaw (s.takeOf c body) := by
  obtain ⟨n, -, -, h⟩ | h := takeOf_cases s c body <;> rw [h]
  · exact taken n
  · exact law

theorem FaultCountLaw.takeRequester {c : Option Command} {body : SlotId → RequesterId → State}
    (taken : ∀ n r, FaultCountLaw (body n r)) : FaultCountLaw (s.takeOf c fun n => s.takeRequester n (body n)) :=
  law.takeOf fun n => by
    unfold State.takeRequester
    split
    · exact law.of_requesters rfl
    · exact taken n _

/-- A requester record changes and the command ends DONE. -/
theorem FaultCountLaw.becomes (n : SlotId) (r : RequesterId) {x : Requester} (counted : x.counted) :
    FaultCountLaw ((s.setRequester r x).doneSlot n) := (law.setRequester r counted).of_requesters rfl

theorem FaultCountLaw.enable (n : SlotId) (r : RequesterId) : FaultCountLaw (s.enable n r) := by
  unfold State.enable
  dsimp only
  split
  · exact law.becomes n r (by exact law r)
  · exact law.becomes n r (by exact law r)
  all_goals exact law.of_requesters rfl

theorem FaultCountLaw.disable (n : SlotId) (r : RequesterId) : FaultCountLaw (s.disable n r) := by
  have disabled : FaultCountLaw (s.setRequester r { s.requesters.get r with state := .disabled }) := law.setRequester r (law r)
  unfold State.disable
  dsimp only
  split
  · exact (disabled.release _ _).of_requesters rfl
  · exact disabled.of_requesters rfl

theorem FaultCountLaw.drainRequester (n : SlotId) (r : RequesterId) : FaultCountLaw (s.drainRequester n r) :=
  law.waitOrComplete (by rfl) n

theorem FaultCountLaw.halt (n : SlotId) (r : RequesterId) : FaultCountLaw (s.halt n r) := by
  have halting : FaultCountLaw (s.setRequester r { s.requesters.get r with state := .halting }) := law.setRequester r (law r)
  unfold State.halt
  dsimp only
  split
  · exact (halting.release _ _).drainRequester n r
  · exact halting.drainRequester n r
  all_goals exact law.of_requesters rfl

theorem FaultCountLaw.resume (n : SlotId) (r : RequesterId) : FaultCountLaw (s.resume n r) := by
  unfold State.resume
  dsimp only
  split
  · exact law.becomes n r (by exact law r)
  · exact law.of_requesters rfl

theorem FaultCountLaw.clearFault (n : SlotId) (r : RequesterId) : FaultCountLaw (s.clearFault n r) :=
  law.becomes n r (by simp [Requester.counted])

theorem FaultCountLaw.takeApSet (n : SlotId) : FaultCountLaw (s.takeApSet n) := by
  unfold State.takeApSet State.grantAperture
  dsimp only
  repeat' split
  all_goals exact law.of_requesters rfl

theorem FaultCountLaw.takeApRetire (n : SlotId) : FaultCountLaw (s.takeApRetire n) := by
  unfold State.takeApRetire
  split
  · exact law.of_requesters rfl
  · split
    · exact law.of_requesters rfl
    · exact law.of_requesters rfl
    · split
      · exact law.waitOrComplete (by simp [State.dropEntries]) n
      · exact law.of_requesters rfl

theorem FaultCountLaw.takeApInvalidate (n : SlotId) : FaultCountLaw (s.takeApInvalidate n) := by
  unfold State.takeApInvalidate
  dsimp only
  split
  · exact law.of_requesters rfl
  · split
    · split
      · exact law.waitOrComplete (by simp [State.dropEntries]) n
      · exact law.of_requesters rfl
    · exact law.of_requesters rfl

theorem FaultCountLaw.takeTcPreload (n : SlotId) : FaultCountLaw (s.takeTcPreload n) := by
  unfold State.takeTcPreload State.preloadPresent State.preloadWalk
  dsimp only
  repeat' split
  all_goals exact law.of_requesters rfl

theorem FaultCountLaw.completeIf (n : SlotId) (c : Command) : FaultCountLaw (s.completeIf n c) := by
  unfold State.completeIf
  split
  · exact law.complete n
  · exact law

theorem FaultCountLaw.hostWriteAt (w : WindowWord) (v : Word) : FaultCountLaw (s.hostWriteAt w v) := by
  obtain h | h := hostWriteAt_cases s w v <;> rw [h]
  · exact faultCountLaw_reset
  · exact law

theorem FaultCountLaw.hostWrite (w : WindowWord) (v : Word) : FaultCountLaw (s.hostWrite w v) := by
  unfold State.hostWrite
  split
  · exact law
  · exact law.hostWriteAt w v

theorem FaultCountLaw.hostAccess (off : Nat) (bytes : List Byte) : FaultCountLaw (s.hostAccess off bytes) := by
  unfold State.hostAccess
  split
  · exact law
  · split
    · exact law.hostWriteAt _ _
    · split
      · exact law
      · exact law

theorem FaultCountLaw.arbitrate (t : PortTagId) : FaultCountLaw (s.arbitrate t) := by
  obtain ⟨w, -, h⟩ | ⟨-, e, -, ⟨h, -⟩ | ⟨h, -⟩⟩ | ⟨-, d, -, ⟨h, -⟩ | ⟨h, -⟩⟩ | h := arbitrate_cases s t <;> rw [h] <;>
    exact law.of_requesters rfl

theorem FaultCountLaw.exec {c : Instr} {t : State} (h : exec c s = .next t) : FaultCountLaw t := by
  cases c with
  | arrival q =>
    have busy : FaultCountLaw (s.setLinkTag q.requester q.tag .busy) := law
    cases h
    split
    · exact law
    · split
      · exact law.capture _ _
      · exact busy.checkArrival q
  | linkReset => cases h; exact law
  | partReset cause => cases cause <;> cases h <;> exact faultCountLaw_reset
  | answer p a =>
    have freed : FaultCountLaw (s.setPortTag p .free) := law
    cases h
    split
    · exact law
    · exact law
    · exact freed.ownerTakes p _ _
  | expiry p =>
    have quarantined : FaultCountLaw (s.setPortTag p .quarantined) := law
    cases h
    split
    · split
      · exact quarantined.ownerTakes p _ _
      · exact law
    · exact law
    · exact law
  | grant p =>
    cases h
    split
    · exact law.arbitrate p
    · exact law
  | apSet => cases h; exact law.takeOf law.takeApSet
  | apRetire => cases h; exact law.takeOf law.takeApRetire
  | apInvalidate => cases h; exact law.takeOf law.takeApInvalidate
  | queryAperture =>
    cases h
    refine law.takeOf fun n => ?_
    unfold State.takeQueryAperture
    split <;> exact law.of_requesters rfl
  | reqEnable => cases h; exact law.takeRequester law.enable
  | reqDisable => cases h; exact law.takeRequester law.disable
  | reqHalt => cases h; exact law.takeRequester law.halt
  | reqResume => cases h; exact law.takeRequester law.resume
  | faultClear => cases h; exact law.takeRequester law.clearFault
  | queryRequester => cases h; exact law.takeRequester fun n r => law.of_requesters rfl
  | tcPreload => cases h; exact law.takeOf law.takeTcPreload
  | tcUnpin =>
    cases h
    refine law.takeOf fun n => ?_
    unfold State.takeTcUnpin
    dsimp only
    repeat' split
    all_goals exact law.of_requesters rfl
  | queryTc =>
    cases h
    refine law.takeOf fun n => ?_
    unfold State.takeQueryTc
    dsimp only
    split <;> exact law.of_requesters rfl
  | flush => cases h; exact law.takeOf fun n => law.waitOrComplete (by rfl) n
  | badOp => cases h; exact law.takeOf fun n => law.of_requesters rfl
  | apRetireCompletion n => cases h; exact law.completeIf n _
  | apInvalidateCompletion n => cases h; exact law.completeIf n _
  | flushCompletion n => cases h; exact law.completeIf n _
  | reqHaltCompletion n => cases h; exact law.completeIf n _
  | tcPreloadCompletion n o =>
    cases h
    split
    · exact law.of_requesters (by rw [endPreload_frame])
    · exact law
  | start n v => cases h; exact law.hostWrite _ _
  | ack n v => cases h; exact law.hostWrite _ _
  | slotWordWrite n k v => cases h; exact law.hostWrite _ _
  | linkEnable v => cases h; exact law.hostWrite _ _
  | softReset v => cases h; exact law.hostWrite _ _
  | intStatusWrite v => cases h; exact law.hostWrite _ _
  | intEnableWrite v => cases h; exact law.hostWrite _ _
  | responseLimitWrite v => cases h; exact law.hostWrite _ _
  | registerWrite off bytes => cases h; exact law.hostAccess _ _
  | resetNRelease => cases h; exact law
  | word7Action3 n v => cases h; exact law.hostWrite _ _

end Counts

/-- Settles O47: only a capture and FAULT_CLEAR touch the count and the first fault, and both keep them in step. -/
theorem everyStepKeepsFaultCountsInStepWithFirstFaults : Obligations.EveryStepKeepsFaultCountsInStepWithFirstFaults :=
  keptByStep_of_exec (fun _ _ law => law) (fun _ law => law) fun _ _ _ law h => law.exec h

end Sys2Proof.Machine

/-! ## A captured fault, and the checks of an arrival -/

namespace Sys2Proof.Machine

/-! ### Captures (R31, R34, R36) -/

theorem withRequester_eq (s : State) (r : RequesterId) (q : Requester) : s.withRequester r q = s.setRequester r q := rfl

theorem recordFault_withState (q : Requester) (f : FaultRecord) (st : RequesterState) :
    { recordFault q f with state := st } = q.withFault f st := by
  unfold recordFault Requester.withFault
  split <;> simp [*]

/-- A release answers the parked transactions of its requester, in order. -/
theorem release_answered (s : State) (r : RequesterId) (x : LinkReply) : Answered s (s.release r x) (s.parkedOf r) x :=
  ⟨by rw [release_frame], fun _ _ => release_linkTag ..⟩

/-- A release changes the walks and what is sent, and no more. -/
theorem release_withoutWaiters (s : State) (r : RequesterId) (x : LinkReply) :
    s.release r x = { s with
      walks := withoutWaitersOf r s.walks
      linkTags := (s.release r x).linkTags
      linkOut := (s.release r x).linkOut } := by
  rw [(release_answered s r x).1]
  exact release_frame s r x

theorem release_walks (s : State) (r : RequesterId) (x : LinkReply) : (s.release r x).walks = withoutWaitersOf r s.walks := by
  rw [release_withoutWaiters]

/-- What has been answered shows in what was sent and in the link tags. -/
theorem Answered.congr {s t u : State} {ps : List Request} {x : LinkReply} (h : Answered s t ps x)
    (linkOut : u.linkOut = t.linkOut) (linkTags : u.linkTags = t.linkTags) : Answered s u ps x :=
  ⟨linkOut.trans h.1, fun r g => by rw [State.linkTag, linkTags]; exact h.2 r g⟩

/-- A capture is what `Captured` says. -/
theorem captured_capture (s : State) (r : RequesterId) (f : FaultRecord) : Captured s (s.capture r f) r f := by
  refine ⟨fun stops => ?_, fun counts => ?_⟩
  · rw [capture_stopping s r f stops, recordFault_withState]
    exact ⟨release_answered (s.setRequester r _) r _, release_withoutWaiters (s.setRequester r _) r _⟩
  · rw [capture_counting s r f counts, withRequester_eq, ← recordFault_withState, ← recordFault_state (s.requesters.get r) f]

/-- Settles O8: an arrival under a BUSY tag is a capture and nothing else. -/
theorem duplicateTagIsDroppedAndCaptured : Obligations.DuplicateTagIsDroppedAndCaptured := by
  intro s q high busy
  refine ⟨_, ?_, captured_capture s q.requester (.protocol (direction q) q.addr)⟩
  have run : exec (.arrival q) s = execArrival q s := rfl
  simp [run, execArrival, high, busy]

/-! ### The checks in their order (R51) -/

section Arrival

variable {s : State} {q : Request}

/-- An arrival whose tag is not BUSY makes its tag BUSY and goes on to the form check. -/
theorem execArrival_of_free (high : s.resetLow = false) (free : s.linkTag q.requester q.tag ≠ .busy) :
    exec (.arrival q) s = .next ((s.setLinkTag q.requester q.tag .busy).checkArrival q) := by
  have run : exec (.arrival q) s = execArrival q s := rfl
  simp [run, execArrival, high, free]

/-- An arrival that is answered at once leaves its tag as it found it. -/
theorem respond_of_arrival (free : s.linkTag q.requester q.tag = .free) (x : LinkReply) :
    (s.setLinkTag q.requester q.tag .busy).respond q.requester q.tag x = s.withSent q.requester q.tag x :=
  respond_eq_withSent (u := s.setLinkTag q.requester q.tag .busy) free rfl x

/-- Check 4 and what follows it, by the requester's state (R29). -/
theorem checkAdmission_of_arrival (free : s.linkTag q.requester q.tag = .free) :
    (s.setLinkTag q.requester q.tag .busy).checkAdmission (maskEnables q) =
      match (s.requesters.get q.requester).state with
      | .disabled => s.withSent q.requester q.tag (.abort .denied)
      | .halting => s.withSent q.requester q.tag (.retry .halted)
      | .halted => s.withSent q.requester q.tag (.retry .halted)
      | .stopped => s.withSent q.requester q.tag (.abort .stopped)
      | .enabled =>
        match s.lookup q.requester q.addr with
        | none => (s.withSent q.requester q.tag (.abort .noAperture)).capture q.requester (.noAperture (direction q) q.addr)
        | some (a, g) =>
          if permits g.access (direction q) = true then (s.setLinkTag q.requester q.tag .busy).translate a g (maskEnables q)
          else (s.withSent q.requester q.tag (.abort .permission)).capture q.requester (.permission (direction q) q.addr a) := by
  have found : (s.setLinkTag q.requester q.tag .busy).lookup q.requester q.addr = s.lookup q.requester q.addr := rfl
  unfold State.checkAdmission
  simp only [maskEnables_requester, maskEnables_tag, maskEnables_addr, maskEnables_direction, State.setLinkTag_requesters, found,
    respond_of_arrival free]
  cases (s.requesters.get q.requester).state <;> rfl

end Arrival

/-- Settles O7: each check as it comes, up to the translation. -/
theorem arrivalChecksAreMadeInOrder : Obligations.ArrivalChecksAreMadeInOrder := by
  intro s q high
  split
  · next busy =>
    have run : exec (.arrival q) s = execArrival q s := rfl
    simp [run, execArrival, high, busy]
  · next notBusy =>
    have free : s.linkTag q.requester q.tag = .free := by
      cases h : s.linkTag q.requester q.tag with
      | free => rfl
      | busy => exact absurd h notBusy
    rw [execArrival_of_free high notBusy, State.checkArrival, respond_of_arrival free, respond_of_arrival free]
    refine congrArg _ ?_
    by_cases line : inOneLine q = true
    · rw [if_pos line, if_neg (not_not.2 (inOneLine_iff.1 line)), checkAdmission_of_arrival free]
      cases h : s.linkEnable with
      | false => exact if_neg (by simp [h])
      | true => exact if_pos h
    · rw [if_neg line, if_pos fun formed => line (inOneLine_iff.2 formed)]

end Sys2Proof.Machine

/-! ## The requester commands -/

namespace Sys2Proof.Machine

/-! ### Takes and ends -/

/-- A requester command that is taken acts on the requester of its index field. -/
theorem takeRequester_taken {s : State} {n : SlotId} {r : RequesterId} {c : Option Command} (body : SlotId → RequesterId → State)
    (take : s.takes n c) (isRequester : slotRequester (s.slots.get n) = some r) :
    (s.takeOf c fun n => s.takeRequester n (body n)) = body n r := by
  rw [takeOf_taken _ take.1 take.2, State.takeRequester, isRequester]

/-- Settles O14: DISABLED and ENABLED become ENABLED, any other state is refused. -/
theorem reqEnableSetsStopOnFaultAndEnables : Obligations.ReqEnableSetsStopOnFaultAndEnables := by
  intro s n r take isRequester
  refine congrArg _ ((takeRequester_taken s.enable take isRequester).trans ?_)
  unfold State.enable
  dsimp only
  split
  · next disabled => exact (if_pos (.inl disabled)).symm
  · next enabled => exact (if_pos (.inr enabled)).symm
  all_goals next h => exact (if_neg (by simp [h])).symm

/-- Settles O15: the requester is DISABLED before its parked transactions are released. -/
theorem reqDisableReleasesParkedTransactions : Obligations.ReqDisableReleasesParkedTransactions := by
  intro s n r take isRequester
  have run : exec .reqDisable s = .next (s.disable n r) := congrArg _ (takeRequester_taken s.disable take isRequester)
  rw [run, State.disable]
  refine ⟨fun enabled => ⟨_, rfl, ?_⟩, fun left => congrArg _ ?_⟩
  · dsimp only
    rw [if_pos enabled]
    refine ⟨release_answered (s.setRequester r _) r _, ?_⟩
    rw [release_withoutWaiters]
    rfl
  · dsimp only
    rw [if_neg left]
    rfl

/-- Settles O17: HALTED becomes ENABLED, any other state is refused. -/
theorem reqResumeEnablesAHaltedRequester : Obligations.ReqResumeEnablesAHaltedRequester := by
  intro s n r take isRequester
  exact congrArg _ (takeRequester_taken s.resume take isRequester)

/-! ### REQ_HALT (R42, R43, R136, R149) -/

theorem markWrites_none {n : SlotId} {p : PostedWrite → Bool} {l : List PostedWrite} (h : ∀ e ∈ l, p e = false) :
    markWrites n p l = l := by
  unfold markWrites
  rw [List.map_congr_left (g := id) fun e he => by simp [h e he], List.map_id]

theorem markReads_none {n : SlotId} {p : ReadEntry → Bool} {l : List ReadEntry} (h : ∀ d ∈ l, p d = false) :
    markReads n p l = l := by
  unfold markReads
  rw [List.map_congr_left (g := id) fun d hd => by simp [h d hd], List.map_id]

theorem complete_of_reqHalt {s : State} {n : SlotId} {r : RequesterId} (command : slotCommand (s.slots.get n) = some .reqHalt)
    (isRequester : slotRequester (s.slots.get n) = some r) :
    s.complete n = if (s.requesters.get r).state = .halting then
        (s.withRequester r { s.requesters.get r with state := .halted }).withDone n (s.slots.get n).words
      else s.withDone n (s.slots.get n).words := by
  simp only [State.complete, command, State.completeHalt, isRequester]
  split <;> rfl

/-- A drain that begins with no entry bearing its mark: it waits where it marks one, and completes where there is none. -/
theorem drainRequester_eq {s : State} {n : SlotId} {r : RequesterId} (fresh : s.bears n = false)
    (command : slotCommand (s.slots.get n) = some .reqHalt) (isRequester : slotRequester (s.slots.get n) = some r)
    (halting : (s.requesters.get r).state = .halting) :
    ((∃ e ∈ s.pwq, e.requester = r) ∨ (∃ d ∈ s.rdt, d.requester = r) →
      s.drainRequester n r = { s with
        pwq := markWrites n (fun e => decide (e.requester = r)) s.pwq
        rdt := markReads n (fun d => decide (d.requester = r)) s.rdt
        slots := s.slots.set n.val { s.slots.get n with state := .waiting } n.isLt }) ∧
    ((∀ e ∈ s.pwq, e.requester ≠ r) ∧ (∀ d ∈ s.rdt, d.requester ≠ r) →
      s.drainRequester n r = (s.withRequester r { s.requesters.get r with state := .halted }).withDone n (s.slots.get n).words) := by
  have bears := mark_bears s n (fun e => decide (e.requester = r)) fun d => decide (d.requester = r)
  simp only [fresh, Bool.false_or] at bears
  have waits : s.drainRequester n r =
      (s.mark n (fun e => decide (e.requester = r)) fun d => decide (d.requester = r)).waitOrComplete n := rfl
  rw [waits, State.waitOrComplete, bears]
  refine ⟨fun some => if_pos ?_, fun ⟨noWrite, noRead⟩ => ?_⟩
  · simpa using some
  · have unmarked : (s.mark n (fun e => decide (e.requester = r)) fun d => decide (d.requester = r)) = s := by
      have writes : markWrites n (fun e => decide (e.requester = r)) s.pwq = s.pwq := markWrites_none fun e he => by
        simp [noWrite e he]
      have reads : markReads n (fun d => decide (d.requester = r)) s.rdt = s.rdt := markReads_none fun d hd => by
        simp [noRead d hd]
      rw [mark_frame]
      exact congrArg₂ (fun p d => { s with pwq := p, rdt := d }) writes reads
    rw [if_neg (by simpa using ⟨noWrite, noRead⟩), unmarked, complete_of_reqHalt command isRequester, if_pos halting]

/-- The drain of a requester that a halt has made HALTING, whatever it has released. -/
theorem drainRequester_of_halting {s : State} {n : SlotId} {r : RequesterId} (fresh : s.bears n = false)
    (command : slotCommand (s.slots.get n) = some .reqHalt) (isRequester : slotRequester (s.slots.get n) = some r)
    {u t : State} (made : u = { s.withRequester r { s.requesters.get r with state := .halting } with
      walks := u.walks, linkTags := u.linkTags, linkOut := u.linkOut }) (drained : t = u.drainRequester n r) :
    (t.linkOut = u.linkOut ∧ t.linkTags = u.linkTags ∧ t.walks = u.walks) ∧
    ((∃ e ∈ s.pwq, e.requester = r) ∨ (∃ d ∈ s.rdt, d.requester = r) →
      t = { s.withRequester r { s.requesters.get r with state := .halting } with
        linkOut := t.linkOut
        linkTags := t.linkTags
        walks := t.walks
        pwq := markWrites n (fun e => decide (e.requester = r)) s.pwq
        rdt := markReads n (fun d => decide (d.requester = r)) s.rdt
        slots := s.slots.set n.val { s.slots.get n with state := .waiting } n.isLt }) ∧
    ((∀ e ∈ s.pwq, e.requester ≠ r) ∧ (∀ d ∈ s.rdt, d.requester ≠ r) →
      t = { (s.withRequester r { s.requesters.get r with state := .halted }).withDone n (s.slots.get n).words with
        linkOut := t.linkOut
        linkTags := t.linkTags
        walks := t.walks }) := by
  generalize u.walks = ws at made ⊢
  generalize u.linkTags = tags at made ⊢
  generalize u.linkOut = out at made ⊢
  subst made
  obtain ⟨waits, completes⟩ := drainRequester_eq
    (s := { s.withRequester r { s.requesters.get r with state := .halting } with walks := ws, linkTags := tags, linkOut := out })
    (n := n) (r := r) fresh command isRequester (by simp [State.withRequester])
  rw [← drained] at waits completes
  by_cases some : (∃ e ∈ s.pwq, e.requester = r) ∨ ∃ d ∈ s.rdt, d.requester = r
  · rw [waits some]
    refine ⟨⟨rfl, rfl, rfl⟩, fun _ => rfl, fun none => ?_⟩
    rcases some with ⟨e, he, h⟩ | ⟨d, hd, h⟩
    · exact absurd h (none.1 e he)
    · exact absurd h (none.2 d hd)
  · have none : (∀ e ∈ s.pwq, e.requester ≠ r) ∧ ∀ d ∈ s.rdt, d.requester ≠ r := by simpa using some
    rw [completes none]
    refine ⟨⟨rfl, rfl, rfl⟩, fun h => absurd h some, fun _ => ?_⟩
    simp [State.withRequester, State.withDone, State.withEnd]

/-- Settles O16: from ENABLED the release comes first, then the drain as from STOPPED. -/
theorem reqHaltDrainsTheRequester : Obligations.ReqHaltDrainsTheRequester := by
  intro s n r law take isRequester
  have run : exec .reqHalt s = .next (s.halt n r) := congrArg _ (takeRequester_taken s.halt take isRequester)
  have fresh : s.bears n = false := by
    have pending := (nextTake_some take.1).2
    by_contra bears
    have waiting := (law n).1 (by simpa using bears)
    simp [pending] at waiting
  rw [run, State.halt]
  refine ⟨fun h => congrArg _ ?_, fun h => congrArg _ ?_, fun h => ⟨_, rfl, ?_⟩⟩
  · rcases h with h | h <;> simp only [h] <;> rfl
  · simp only [h]
    rfl
  · rcases h with h | h <;> simp only [h]
    · have emptied := release_walks (s.setRequester r { s.requesters.get r with state := .halting }) r (.retry .halted)
      obtain ⟨⟨out, tags, walks⟩, drained⟩ := drainRequester_of_halting fresh take.2 isRequester
        (u := (s.setRequester r { s.requesters.get r with state := .halting }).release r (.retry .halted))
        (by rw [emptied]; exact release_withoutWaiters ..) rfl
      have answered := release_answered (s.setRequester r { s.requesters.get r with state := .halting }) r (.retry .halted)
      exact ⟨fun _ => ⟨answered.congr out tags, walks.trans emptied⟩, by simp, drained⟩
    · obtain ⟨⟨out, tags, walks⟩, drained⟩ := drainRequester_of_halting fresh take.2 isRequester
        (u := s.setRequester r { s.requesters.get r with state := .halting }) rfl rfl
      exact ⟨by simp, fun _ => ⟨out, tags, walks⟩, drained⟩

end Sys2Proof.Machine

/-! ## Faults reported and cleared, and the control window -/

namespace Sys2Proof.Machine

theorem mem_allSlots (n : SlotId) : n ∈ allSlots := by revert n; decide

theorem mem_allRequesters (r : RequesterId) : r ∈ allRequesters := by revert r; decide

/-- The cause FAULT (R37). -/
theorem faultPending_iff {s : State} : faultPending s = true ↔ ∃ r : RequesterId, (s.requesters.get r).firstFault ≠ none := by
  simp only [faultPending, List.any_eq_true, mem_allRequesters, true_and, Option.isSome_iff_ne_none]

/-- The cause CMD_NOTIFY (R172). -/
theorem cmdNotify_iff {s : State} :
    cmdNotify s = true ↔ ∃ n : SlotId, ((s.slots.get n).state = .done ∨ (s.slots.get n).state = .failed) ∧
      slotNotify (s.slots.get n) = true := by
  simp only [cmdNotify, List.any_eq_true, mem_allSlots, true_and, ended, Bool.and_eq_true, Bool.or_eq_true, decide_eq_true_eq]

/-- Settles O18: the record is cleared, so that only another requester can hold the cause pending. -/
theorem faultClearRemovesTheFaultAndRestartsAStoppedRequester :
    Obligations.FaultClearRemovesTheFaultAndRestartsAStoppedRequester := by
  intro s n r take isRequester
  refine ⟨s.clearFault n r, congrArg _ (takeRequester_taken s.clearFault take isRequester), rfl, ?_⟩
  have record : ∀ r', ((s.clearFault n r).requesters.get r').firstFault =
      if r = r' then none else (s.requesters.get r').firstFault := fun r' => by
    simp only [State.clearFault, State.doneSlot_requesters, State.setRequester_get]
    split <;> rfl
  simp only [faultPending_iff, record]
  refine exists_congr fun r' => ?_
  by_cases h : r = r'
  · simp [h]
  · simp [h, Ne.symm h]

/-! ### QUERY_REQUESTER (R46) -/

theorem requesterStateCode_lt (st : RequesterState) : requesterStateCode st < 2 ^ 3 := by cases st <;> decide

theorem faultKindCode_lt (f : FaultRecord) : faultKindCode f < 2 ^ 4 := by cases f <;> simp [faultKindCode]

theorem faultIndex_lt (f : FaultRecord) : ((faultAperture f).map Fin.val).getD 0 < 2 ^ 6 := by
  cases h : faultAperture f with
  | none => simp
  | some a => exact a.isLt

/-- One bit of a word, as a field of its own. -/
theorem getLsbD_eq_extract (x : Word) (i : Nat) : x.getLsbD i = (x.extractLsb' i 1).getLsbD 0 := by simp

theorem directionBit_eq (d : Direction) : directionBit d = decide (d = .write) := by cases d <;> rfl

theorem qualifierBit_eq (q : Option Qualifier) : (q.map qualifierBit).getD false = decide (q = some .timeout) := by
  rcases q with _ | _ | _ <;> rfl

/-- The fields of word 1 that every report has. -/
theorem requesterReport_head {q : Requester} (count : q.faultCount ≤ 255) :
    natAt 0 (requesterStateCode q.state) ||| bitAt 4 q.stopOnFault ||| natAt 8 q.faultCount =
      fieldAt 0 (BitVec.ofNat 3 (requesterStateCode q.state)) ||| fieldAt 4 (BitVec.ofBool q.stopOnFault) |||
        fieldAt 8 (BitVec.ofNat 8 q.faultCount) := by
  have state := requesterStateCode_lt q.state
  rw [natAt_eq_fieldAt 3 0 state (by omega), natAt_eq_fieldAt 8 8 (n := q.faultCount) (by omega) (by omega), bitAt]

/-- The report of a record without a first fault. -/
theorem requesterReport_of_none {q : Requester} (count : q.faultCount ≤ 255) (none : q.firstFault = none) :
    requesterReport q =
      { w1 := fieldAt 0 (BitVec.ofNat 3 (requesterStateCode q.state)) ||| fieldAt 4 (BitVec.ofBool q.stopOnFault) |||
          fieldAt 8 (BitVec.ofNat 8 q.faultCount)
        w2 := 0, w3 := 0, w4 := 0, w5 := 0, w6 := 0 } := by
  simp only [requesterReport, none, requesterReport_head count]

/-- Word 1 of the report of a record with a first fault, field by field. -/
theorem requesterReport_w1 {q : Requester} {f : FaultRecord} (count : q.faultCount ≤ 255) (held : q.firstFault = some f) :
    (requesterReport q).w1 =
      fieldAt 0 (BitVec.ofNat 3 (requesterStateCode q.state)) ||| fieldAt 4 (BitVec.ofBool q.stopOnFault) |||
        fieldAt 8 (BitVec.ofNat 8 q.faultCount) ||| fieldAt 16 (BitVec.ofNat 4 (faultKindCode f)) |||
        fieldAt 20 (BitVec.ofBool (decide (faultDirection f = .write))) |||
        fieldAt 21 (BitVec.ofBool (decide (faultQualifier f = some .timeout))) |||
        fieldAt 22 (BitVec.ofBool (faultQualifier f).isSome) ||| fieldAt 23 (BitVec.ofBool (faultAperture f).isSome) |||
        fieldAt 24 (BitVec.ofBool (faultEntry f).isSome) |||
        fieldAt 25 (BitVec.ofNat 6 (((faultAperture f).map Fin.val).getD 0)) := by
  simp only [requesterReport, held, requesterReport_head count]
  rw [natAt_eq_fieldAt 4 16 (faultKindCode_lt f) (by omega), natAt_eq_fieldAt 6 25 (faultIndex_lt f) (by omega), directionBit_eq,
    qualifierBit_eq]
  simp only [bitAt]

/-- The fields of word 1 that every report has read back. -/
theorem requesterReport_common {q : Requester} (count : q.faultCount ≤ 255) :
    ((requesterReport q).w1.extractLsb' 0 3).toNat = requesterStateCode q.state ∧
      (requesterReport q).w1.getLsbD 4 = q.stopOnFault ∧ ((requesterReport q).w1.extractLsb' 8 8).toNat = q.faultCount := by
  have state := requesterStateCode_lt q.state
  rw [getLsbD_eq_extract]
  cases h : q.firstFault with
  | none =>
    simp (disch := omega) only [requesterReport_of_none count h, BitVec.extractLsb'_or, extract_fieldAt, extract_fieldAt_beside]
    simp
    omega
  | some f =>
    simp (disch := omega) only [requesterReport_w1 count h, BitVec.extractLsb'_or, extract_fieldAt, extract_fieldAt_beside]
    simp
    omega

/-- The fields of word 1 that a first fault adds read back. -/
theorem requesterReport_fault {q : Requester} {f : FaultRecord} (count : q.faultCount ≤ 255) (held : q.firstFault = some f) :
    ((requesterReport q).w1.extractLsb' 16 4).toNat = faultKindCode f ∧
      (requesterReport q).w1.getLsbD 20 = decide (faultDirection f = .write) ∧
      (requesterReport q).w1.getLsbD 21 = decide (faultQualifier f = some .timeout) ∧
      (requesterReport q).w1.getLsbD 22 = (faultQualifier f).isSome ∧
      (requesterReport q).w1.getLsbD 23 = (faultAperture f).isSome ∧
      (requesterReport q).w1.getLsbD 24 = (faultEntry f).isSome ∧
      ((requesterReport q).w1.extractLsb' 25 6).toNat = ((faultAperture f).map Fin.val).getD 0 := by
  have kind := faultKindCode_lt f
  have index := faultIndex_lt f
  simp only [getLsbD_eq_extract]
  simp (disch := omega) only [requesterReport_w1 count held, BitVec.extractLsb'_or, extract_fieldAt, extract_fieldAt_beside]
  simp
  omega

/-- The page map entry address of the report, its upper byte in word 4. -/
theorem requesterReport_entry {q : Requester} {f : FaultRecord} (held : q.firstFault = some f) :
    (requesterReport q).w4.extractLsb' 0 8 ++ (requesterReport q).w3 = (faultEntry f).getD 0 := by
  simp (disch := omega) only [requesterReport, held, extract_fieldAt]
  exact append_extract _

/-- Settles O19: the report, word by word. -/
theorem queryRequesterReportsTheRecord : Obligations.QueryRequesterReportsTheRecord := by
  unfold Obligations.QueryRequesterReportsTheRecord
  intro s n r law take isRequester
  have count := (law r).1
  have taken : (s.takeOf (some .queryRequester) fun n => s.takeRequester n (s.queryRequester n)) =
      s.withDone n (withReport (s.slots.get n) (requesterReport (s.requesters.get r))).words :=
    (takeRequester_taken s.queryRequester take isRequester).trans (doneSlot_setSlot ..)
  obtain ⟨state, stopOnFault, faults⟩ := requesterReport_common count
  have last : (requesterReport (s.requesters.get r)).w5 = 0 ∧ (requesterReport (s.requesters.get r)).w6 = 0 := by
    unfold requesterReport
    dsimp only
    split <;> exact ⟨rfl, rfl⟩
  refine ⟨_, congrArg _ taken, rfl, state, stopOnFault, faults, last.1, last.2, fun none => ?_, fun f some => ?_⟩
  · have report := requesterReport_of_none count none
    refine ⟨?_, congrArg Report.w2 report, congrArg Report.w3 report, congrArg Report.w4 report⟩
    refine (congrArg (fun w : Report => w.w1.extractLsb' 16 15) report).trans ?_
    simp (disch := omega) only [BitVec.extractLsb'_or, extract_fieldAt_beside]
    rfl
  · obtain ⟨kind, direction, timeout, hasQualifier, hasAperture, hasEntry, index⟩ := requesterReport_fault count some
    have addr : (requesterReport (s.requesters.get r)).w2 = faultAddr f := by simp [requesterReport, some]
    exact ⟨kind, direction, timeout, hasQualifier, hasAperture, hasEntry, index, addr, requesterReport_entry some⟩

/-! ### Completions as commands (R43, R82, R138, R143, R147, R151) -/

theorem bears_eq_false {s : State} {n : SlotId} :
    s.bears n = false ↔ (∀ e ∈ s.pwq, e.marks.get n = false) ∧ ∀ d ∈ s.rdt, d.marks.get n = false := by
  simp [State.bears]

theorem complete_of_apRetire {s : State} {n : SlotId} {a : ApIndex} {g : Grant}
    (command : slotCommand (s.slots.get n) = some .apRetire) (aperture : slotAperture (s.slots.get n) = some a)
    (retiring : (s.apertures.get a).life = .retiring g) :
    s.complete n = { s.withAperture a { generation := (s.apertures.get a).generation + 1, life := .free } with
      views := s.views.set g.owner.val ((s.views.get g.owner).filter fun i => decide (i ≠ a)) g.owner.isLt }.withDone n
        ((s.slots.get n).wordsWith 6 (((s.apertures.get a).generation + 1).setWidth 32)) := by
  simp only [State.complete, command, State.completeRetire, aperture, retiring]
  rw [State.writeWord, doneSlot_setSlot, fieldAt_zero]
  rfl

theorem complete_of_other {s : State} {n : SlotId} (noRetire : slotCommand (s.slots.get n) ≠ some .apRetire)
    (noHalt : slotCommand (s.slots.get n) ≠ some .reqHalt) : s.complete n = s.withDone n (s.slots.get n).words := by
  unfold State.complete
  split
  · contradiction
  · contradiction
  · rfl

theorem completeIf_ready {s : State} {n : SlotId} {c : Command} (waiting : (s.slots.get n).state = .waiting)
    (command : slotCommand (s.slots.get n) = some c) (drained : s.bears n = false) : s.completeIf n c = s.complete n :=
  if_pos ⟨waiting, command, drained⟩

theorem doneSlot_writeWord (s : State) (n : SlotId) (k : Fin 7) (v : Word) :
    (s.writeWord n k v).doneSlot n = s.withDone n ((s.slots.get n).wordsWith k v) := doneSlot_setSlot ..

theorem endPreload_of_running {s : State} {n : SlotId} (running : (s.slots.get n).state = .running) (o : PreloadEnd) :
    s.endPreload n o =
      match o with
      | .installed => s.withDone n ((s.slots.get n).wordsWith 5 2)
      | .pinLimit => s.withFailed n .pinLimit
      | .noPage => s.withFailed n .noPage
      | .walkError q => s.withEnd n (s.slots.get n).words .failed .walkError q := by
  refine (if_pos running).trans ?_
  cases o with
  | installed => exact doneSlot_writeWord ..
  | pinLimit => rfl
  | noPage => rfl
  | walkError q => rfl

/-- Settles O27: a ready slot completes, by the command that it holds. -/
theorem completionsEndTheirCommand : Obligations.CompletionsEndTheirCommand := by
  intro s n
  refine ⟨fun waiting noWrite noRead => ?_, fun running command uncarried o => ?_⟩
  · have drained := bears_eq_false.2 ⟨noWrite, noRead⟩
    refine ⟨fun a g command aperture retiring => ?_, fun r command isRequester => ?_, fun command => ?_, fun command => ?_⟩
    · exact congrArg _ ((completeIf_ready waiting command drained).trans (complete_of_apRetire command aperture retiring))
    · exact congrArg _ ((completeIf_ready waiting command drained).trans (complete_of_reqHalt command isRequester))
    all_goals
      exact congrArg _ ((completeIf_ready waiting command drained).trans (complete_of_other (by simp [command]) (by simp [command])))
  · have none : (s.walks.any fun w => decide (w.preload.map Prod.fst = some n)) = false := by
      refine List.any_eq_false.2 fun w hw => ?_
      simp only [decide_eq_true_eq, Option.map_eq_some_iff, not_exists, not_and]
      rintro ⟨m, pin⟩ hpre rfl
      exact uncarried w hw pin hpre
    exact congrArg _ ((if_pos ⟨command, none⟩).trans (endPreload_of_running running o))

/-! ### Bad codes and bad indexes (R38, R171) -/

theorem slotAperture_eq_none {sl : Slot} (h : 63 < (slotIndex sl).toNat) : slotAperture sl = none := dif_neg (by omega)

theorem slotRequester_eq_none {sl : Slot} (h : 15 < (slotIndex sl).toNat) : slotRequester sl = none := dif_neg (by omega)

theorem takeRequester_badIndex {s : State} {n : SlotId} {c : Option Command} (body : SlotId → RequesterId → State)
    (take : s.takes n c) (h : 15 < (slotIndex (s.slots.get n)).toNat) :
    (s.takeOf c fun n => s.takeRequester n (body n)) = s.withFailed n .badIndex := by
  rw [takeOf_taken _ take.1 take.2, State.takeRequester, slotRequester_eq_none h]
  rfl

/-- A take of an aperture's command looks at the index first. -/
theorem takeOf_badIndex {s : State} {n : SlotId} {c : Option Command} {body : SlotId → State} (take : s.takes n c)
    (h : 63 < (slotIndex (s.slots.get n)).toNat)
    (first : slotAperture (s.slots.get n) = none → body n = s.withFailed n .badIndex) : s.takeOf c body = s.withFailed n .badIndex :=
  (takeOf_taken _ take.1 take.2).trans (first (slotAperture_eq_none h))

/-- Settles O41: the operation code is looked at by the take, the index by each command before all else. -/
theorem badOperationCodeAndBadIndexFailAtTheTake : Obligations.BadOperationCodeAndBadIndexFailAtTheTake := by
  intro s n
  refine ⟨fun take => congrArg _ (takeOf_taken _ take.1 take.2), fun c i mem take h => ?_, fun c i mem take h => ?_, fun take h => ?_⟩
  · simp only [List.mem_cons, List.not_mem_nil, Prod.mk.injEq, or_false] at mem
    obtain ⟨rfl, rfl⟩ | ⟨rfl, rfl⟩ | ⟨rfl, rfl⟩ | ⟨rfl, rfl⟩ | ⟨rfl, rfl⟩ | ⟨rfl, rfl⟩ := mem
    · exact congrArg _ (takeOf_badIndex take h fun none => takeApSet_badIndex (.inl none))
    · exact congrArg _ (takeOf_badIndex take h fun none => by simp only [State.takeApRetire, none]; rfl)
    · exact congrArg _ (takeOf_badIndex take h fun none => by simp only [State.takeApInvalidate, none]; rfl)
    · exact congrArg _ (takeOf_badIndex take h fun none => by simp only [State.takeQueryAperture, none]; rfl)
    · exact congrArg _ (takeOf_badIndex take h fun none => by simp only [State.takeTcPreload, none]; rfl)
    · exact congrArg _ (takeOf_badIndex take h fun none => by simp only [State.takeTcUnpin, none]; rfl)
  · simp only [List.mem_cons, List.not_mem_nil, Prod.mk.injEq, or_false] at mem
    obtain ⟨rfl, rfl⟩ | ⟨rfl, rfl⟩ | ⟨rfl, rfl⟩ | ⟨rfl, rfl⟩ | ⟨rfl, rfl⟩ | ⟨rfl, rfl⟩ := mem
    · exact congrArg _ (takeRequester_badIndex s.enable take h)
    · exact congrArg _ (takeRequester_badIndex s.disable take h)
    · exact congrArg _ (takeRequester_badIndex s.halt take h)
    · exact congrArg _ (takeRequester_badIndex s.resume take h)
    · exact congrArg _ (takeRequester_badIndex s.clearFault take h)
    · exact congrArg _ (takeRequester_badIndex s.queryRequester take h)
  · exact congrArg _ ((takeOf_taken s.takeQueryTc take.1 take.2).trans (if_neg (Nat.not_lt.2 h)))

/-! ### Window reads (R165, R166, R174 to R177) -/

/-- What a read returns while RESET_N is high. -/
theorem readAt_high {s : State} (high : s.resetLow = false) (w : WindowWord) :
    readAt s w =
      match w with
      | .id => Config.idWord
      | .control => bitAt 0 s.linkEnable
      | .intStatus => fieldAt 0 (intStatus s)
      | .intEnable => fieldAt 0 s.intEnable
      | .responseLimit => fieldAt 0 s.responseLimit
      | .slot n k => if h : k.val < 7 then slotWord (s.slots.get n) ⟨k.val, h⟩ else word7 (s.slots.get n)
      | .unlisted => 0 := by
  refine (if_neg (by simp [high])).trans ?_
  cases w <;> rfl

theorem windowWord_high {s : State} {addr : Nat} {w : WindowWord} (listed : windowAt addr = w)
    {x : Word} (shows : readAt s w = x) : windowWord s addr = x := by
  rw [windowWord, listed, shows]

/-- Word k of slot n stands at 0x100 + 32 n + 4 k. -/
theorem windowAt_slot (n : SlotId) (k : Fin 8) : windowAt (0x100 + 32 * n.val + 4 * k.val) = .slot n k := by
  have word : (0x100 + 32 * n.val + 4 * k.val) / 4 = 64 + (8 * n.val + k.val) := by omega
  have slot : (8 * n.val + k.val) / 8 = n.val := by omega
  have index : (8 * n.val + k.val) % 8 = k.val := by omega
  simp only [windowAt, word, Nat.add_sub_cancel_left, slot, index]
  rw [if_neg (by omega), if_neg (by omega), if_neg (by omega), if_neg (by omega), if_neg (by omega), if_pos (by omega)]
  simp [Fin.ofNat, Fin.ext_iff]

theorem windowAt_unlisted {addr : Nat} (low : 0x14 ≤ addr) (out : addr < 0x100 ∨ 0x200 ≤ addr) : windowAt addr = .unlisted := by
  unfold windowAt
  dsimp only
  rw [if_neg (by omega), if_neg (by omega), if_neg (by omega), if_neg (by omega), if_neg (by omega), if_neg (by omega)]

theorem slotStateCode_lt (st : SlotState) : slotStateCode st < 2 ^ 3 := by cases st <;> decide

theorem statusCode_lt (c : Status) : statusCode c < 2 ^ 8 := by cases c <;> decide

/-- The fields of word 7 read back, with 0 beside them. -/
theorem word7_fields (sl : Slot) :
    ((word7 sl).extractLsb' 0 3).toNat = slotStateCode sl.state ∧ ((word7 sl).extractLsb' 8 8).toNat = statusCode sl.status ∧
      (word7 sl).getLsbD 16 = decide (sl.qualifier = .timeout) ∧ (word7 sl).extractLsb' 3 5 = 0 ∧ (word7 sl).extractLsb' 17 15 = 0 := by
  have state := slotStateCode_lt sl.state
  have status := statusCode_lt sl.status
  have qualifier : qualifierBit sl.qualifier = decide (sl.qualifier = .timeout) := by cases sl.qualifier <;> rfl
  rw [word7, natAt_eq_fieldAt 3 0 state (by omega), natAt_eq_fieldAt 8 8 status (by omega), bitAt, qualifier, getLsbD_eq_extract]
  simp (disch := omega) only [BitVec.extractLsb'_or, extract_fieldAt, extract_fieldAt_beside]
  simp
  omega

theorem intStatus_bits (s : State) :
    (intStatus s).getLsbD 0 = cmdNotify s ∧ (intStatus s).getLsbD 1 = faultPending s ∧ (intStatus s).getLsbD 2 = s.submitError := by
  simp only [intStatus, BitVec.getLsbD_append]
  simp

/-- INT_N is low exactly while a cause is pending with its enable set (R172). -/
theorem intNLow_iff {s : State} : intNLow s = true ↔ ∃ i < 3, (intStatus s).getLsbD i = true ∧ s.intEnable.getLsbD i = true := by
  have zero : intStatus s &&& s.intEnable = 0 ↔ ∀ i < 3, (intStatus s &&& s.intEnable).getLsbD i = false :=
    ⟨fun h i _ => by simp [h], fun h => BitVec.eq_of_getLsbD_eq fun i hi => by simp [h i hi]⟩
  rw [intNLow, decide_eq_true_eq, ne_eq, zero]
  simp

/-- Settles O45: each word of the window as the register map lists it. -/
theorem windowReadsAndInterruptLineShowTheState : Obligations.WindowReadsAndInterruptLineShowTheState := by
  unfold Obligations.WindowReadsAndInterruptLineShowTheState
  intro s high
  have read := readAt_high high
  have status : windowWord s 0x008 = fieldAt 0 (intStatus s) := windowWord_high rfl (read _)
  have bit : ∀ i < 3, (windowWord s 0x008).getLsbD i = (intStatus s).getLsbD i := fun i hi => by
    rw [status, getLsbD_fieldAt]
    simp
    omega
  obtain ⟨notify, fault, submit⟩ := intStatus_bits s
  refine ⟨windowWord_high rfl (read _), windowWord_high rfl ((read _).trans (fieldAt_zero _)), ?_, ?_, ?_, ?_,
    windowWord_high rfl ((read _).trans (fieldAt_zero _)), windowWord_high rfl ((read _).trans (fieldAt_zero _)), fun n k => ?_,
    fun n => ?_, fun addr low out => windowWord_high (windowAt_unlisted low out) (read _), ?_⟩
  · rw [bit 0 (by omega), notify]
    exact cmdNotify_iff
  · rw [bit 1 (by omega), fault]
    exact faultPending_iff
  · rw [bit 2 (by omega), submit]
  · rw [status]
    exact extract_fieldAt_beside _ (by omega)
  · exact windowWord_high (windowAt_slot n k.castSucc) ((read _).trans (dif_pos k.isLt))
  · have status : windowWord s (0x100 + 32 * n.val + 28) = word7 (s.slots.get n) := windowWord_high (windowAt_slot n 7) (read _)
    rw [status]
    exact word7_fields _
  · rw [intNLow_iff]
    exact exists_congr fun i => and_congr_right fun hi => by rw [bit i hi]

end Sys2Proof.Machine

/-! ## The slots that a departure tells -/

namespace Sys2Proof.Machine

/-! ### One slot is told (R137, R138) -/

theorem lossWords_word0 (sl : Slot) (lost : Bool) : (lossWords sl lost).get 0 = slotWord sl 0 := by
  unfold lossWords
  split
  · exact withWord_word0 sl (k := 5) (by decide) _
  · rfl

/-- A slot with other words, word 0 kept. -/
def State.withWords (s : State) (n : SlotId) (words : Vector Word 7) : State :=
  s.setSlot n { s.slots.get n with words := words }

theorem countLoss_eq (s : State) (lost : Bool) (n : SlotId) :
    (if lost then s.countLoss n else s) = s.withWords n (lossWords (s.slots.get n) lost) := by
  have same : s = s.withWords n (s.slots.get n).words := (congrArg (fun v => { s with slots := v }) (vset_get s.slots n)).symm
  cases lost with
  | false => exact same
  | true =>
    by_cases halt : slotCommand (s.slots.get n) = some .reqHalt
    · simpa [State.countLoss, lossWords, halt] using same
    · simp [State.countLoss, lossWords, halt, State.withWords, State.writeWord, withWord, Slot.wordsWith]

theorem tell_of_waiting {s : State} {n : SlotId} (waiting : (s.slots.get n).state = .waiting) (lost : Bool) :
    s.tell lost n =
      if s.bears n then s.withWords n (lossWords (s.slots.get n) lost)
      else (s.withWords n (lossWords (s.slots.get n) lost)).complete n := by
  have told : s.tell lost n = if (if lost then s.countLoss n else s).bears n then (if lost then s.countLoss n else s)
      else (if lost then s.countLoss n else s).complete n := by
    unfold State.tell
    rw [if_pos waiting]
  rw [told, countLoss_eq]
  rfl

/-- The completion of the command in a slot whose words have changed behind word 0. -/
theorem complete_withWords_cases (s : State) (n : SlotId) {words : Vector Word 7}
    (word : words.get 0 = slotWord (s.slots.get n) 0) :
    (∃ a g, slotCommand (s.slots.get n) = some .apRetire ∧ slotAperture (s.slots.get n) = some a ∧
      (s.apertures.get a).life = .retiring g ∧
      (s.withWords n words).complete n =
        { s.withAperture a { generation := (s.apertures.get a).generation + 1, life := .free } with
          views := s.views.set g.owner.val ((s.views.get g.owner).filter fun i => decide (i ≠ a)) g.owner.isLt }.withDone n
          (words.set 6 (((s.apertures.get a).generation + 1).setWidth 32))) ∨
    (∃ r, slotCommand (s.slots.get n) = some .reqHalt ∧ slotRequester (s.slots.get n) = some r ∧
      (s.requesters.get r).state = .halting ∧
      (s.withWords n words).complete n =
        (s.withRequester r { s.requesters.get r with state := .halted }).withDone n words) ∨
    ((slotCommand (s.slots.get n) = some .apRetire →
        ∀ a g, slotAperture (s.slots.get n) = some a → (s.apertures.get a).life ≠ .retiring g) ∧
      (slotCommand (s.slots.get n) = some .reqHalt →
        ∀ r, slotRequester (s.slots.get n) = some r → (s.requesters.get r).state ≠ .halting) ∧
      (s.withWords n words).complete n = s.withDone n words) := by
  have slot : (s.withWords n words).slots.get n = { s.slots.get n with words := words } := by simp [State.withWords]
  have wordsOf : ((s.withWords n words).slots.get n).words = words := by rw [slot]
  obtain ⟨command, -, aperture, requester⟩ := slot_congr (sl' := { s.slots.get n with words := words }) word
  rw [← slot] at command aperture requester
  obtain ⟨a, g, -, hc, ha, retiring, -⟩ | ⟨r, -, hc, hr, halting, -⟩ | ⟨noRetire, noHalt, e⟩ := complete_cases (s.withWords n words) n
  · refine .inl ⟨a, g, command ▸ hc, aperture ▸ ha, retiring, ?_⟩
    rw [complete_of_apRetire hc ha retiring, Slot.wordsWith, wordsOf]
    exact withDone_setSlot { s.withAperture a _ with views := _ } n _ _
  · refine .inr (.inl ⟨r, command ▸ hc, requester ▸ hr, halting, ?_⟩)
    rw [complete_of_reqHalt hc hr, if_pos halting, wordsOf]
    exact withDone_setSlot (s.withRequester r _) n _ _
  · rw [command, aperture] at noRetire
    rw [command, requester] at noHalt
    refine .inr (.inr ⟨noRetire, noHalt, ?_⟩)
    rw [e, wordsOf]
    exact withDone_setSlot s n _ _

/-- All that one slot's being told can do. -/
theorem tell_cases (s : State) (lost : Bool) (n : SlotId) :
    ((s.slots.get n).state ≠ .waiting ∧ s.tell lost n = s) ∨
    ((s.slots.get n).state = .waiting ∧ s.bears n = true ∧ s.tell lost n = s.withWords n (lossWords (s.slots.get n) lost)) ∨
    (s.bears n = false ∧ ∃ a g, s.retires n a ∧ (s.apertures.get a).life = .retiring g ∧
      s.tell lost n = { s.withAperture a { generation := (s.apertures.get a).generation + 1, life := .free } with
        views := s.views.set g.owner.val ((s.views.get g.owner).filter fun i => decide (i ≠ a)) g.owner.isLt }.withDone n
        ((lossWords (s.slots.get n) lost).set 6 (((s.apertures.get a).generation + 1).setWidth 32))) ∨
    (s.bears n = false ∧ ∃ r, s.halts n r ∧ (s.requesters.get r).state = .halting ∧
      s.tell lost n = (s.withRequester r { s.requesters.get r with state := .halted }).withDone n
        (lossWords (s.slots.get n) lost)) ∨
    ((s.slots.get n).state = .waiting ∧ s.bears n = false ∧
      (∀ a g, s.retires n a → (s.apertures.get a).life ≠ .retiring g) ∧
      (∀ r, s.halts n r → (s.requesters.get r).state ≠ .halting) ∧
      s.tell lost n = s.withDone n (lossWords (s.slots.get n) lost)) := by
  by_cases waiting : (s.slots.get n).state = .waiting
  · right
    rw [tell_of_waiting waiting]
    by_cases held : s.bears n = true
    · exact .inl ⟨waiting, held, if_pos held⟩
    · right
      have last : s.bears n = false := by simpa using held
      rw [if_neg held]
      obtain ⟨a, g, hc, ha, retiring, e⟩ | ⟨r, hc, hr, halting, e⟩ | ⟨noRetire, noHalt, e⟩ :=
        complete_withWords_cases s n (lossWords_word0 (s.slots.get n) lost)
      · exact .inl ⟨last, a, g, ⟨waiting, hc, ha⟩, retiring, e⟩
      · exact .inr (.inl ⟨last, r, ⟨waiting, hc, hr⟩, halting, e⟩)
      · exact .inr (.inr ⟨waiting, last, fun a g h => noRetire h.2.1 a g h.2.2, fun r h => noHalt h.2.1 r h.2.2, e⟩)
  · exact .inl ⟨waiting, if_neg waiting⟩

@[simp] theorem withWords_slot (s : State) (n m : SlotId) (words : Vector Word 7) :
    (s.withWords n words).slots.get m = if n = m then { s.slots.get n with words := words } else s.slots.get m :=
  State.setSlot_get ..

@[simp] theorem withDone_submission (s : State) (n : SlotId) (words : Vector Word 7) :
    (s.withDone n words).submission = s.submission.filter fun m => decide (m ≠ n) := rfl

/-- What waits after a change waited before it, with the same word 0. -/
def StillWaits (s t : State) : Prop :=
  ∀ n, (t.slots.get n).state = .waiting →
    (s.slots.get n).state = .waiting ∧ slotWord (t.slots.get n) 0 = slotWord (s.slots.get n) 0

theorem StillWaits.refl (s : State) : StillWaits s s := fun _ h => ⟨h, rfl⟩

theorem StillWaits.trans {s u t : State} (h : StillWaits s u) (h' : StillWaits u t) : StillWaits s t := fun n waiting => by
  obtain ⟨waiting, word⟩ := h' n waiting
  exact ⟨(h n waiting).1, word.trans (h n waiting).2⟩

theorem StillWaits.retires {s t : State} (h : StillWaits s t) {n : SlotId} {a : ApIndex} (retires : t.retires n a) :
    s.retires n a := by
  obtain ⟨waiting, command, aperture⟩ := retires
  obtain ⟨waiting, word⟩ := h n waiting
  obtain ⟨command', -, aperture', -⟩ := slot_congr word
  exact ⟨waiting, command' ▸ command, aperture' ▸ aperture⟩

theorem StillWaits.halts {s t : State} (h : StillWaits s t) {n : SlotId} {r : RequesterId} (halts : t.halts n r) :
    s.halts n r := by
  obtain ⟨waiting, command, requester⟩ := halts
  obtain ⟨waiting, word⟩ := h n waiting
  obtain ⟨command', -, -, requester'⟩ := slot_congr word
  exact ⟨waiting, command' ▸ command, requester' ▸ requester⟩

/-- The slot that is told waits on with its word 0, or is DONE. -/
theorem tell_slot (s : State) (lost : Bool) (n : SlotId) :
    s.tell lost n = s ∨ ∃ words, words.get 0 = slotWord (s.slots.get n) 0 ∧
        (s.tell lost n).slots.get n = { s.slots.get n with words := words } ∨
      (s.tell lost n).slots.get n = { state := .done, words := words, status := .none, qualifier := .error } := by
  obtain ⟨-, e⟩ | ⟨-, -, e⟩ | ⟨-, a, g, -, -, e⟩ | ⟨-, r, -, -, e⟩ | ⟨-, -, -, -, e⟩ := tell_cases s lost n
  · exact .inl e
  · exact .inr ⟨_, .inl ⟨lossWords_word0 _ lost, by rw [e]; simp⟩⟩
  all_goals exact .inr ⟨_, .inr (by rw [e, withDone_slot, if_pos rfl])⟩

theorem tell_stillWaits (s : State) (lost : Bool) (n : SlotId) : StillWaits s (s.tell lost n) := by
  intro m waiting
  by_cases h : n = m
  · subst h
    obtain e | ⟨words, ⟨word, e⟩ | e⟩ := tell_slot s lost n
    · rw [e] at waiting ⊢
      exact ⟨waiting, rfl⟩
    · rw [e] at waiting ⊢
      exact ⟨waiting, word⟩
    · simp [e] at waiting
  · rw [tell_slot_ne s lost h] at waiting ⊢
    exact ⟨waiting, rfl⟩

/-! ### What telling leaves unchanged -/

theorem OnlyToldSlots.refl (s : State) (marks : MarkSet) : OnlyToldSlots s s marks :=
  ⟨rfl, fun _ => .inr ⟨rfl, .rfl⟩, .refl _, fun _ => .inr ⟨rfl, fun _ => .rfl⟩, fun _ => .refl _, fun _ => ⟨rfl, .inr rfl⟩⟩

theorem OnlyToldSlots.trans {s u t : State} {marks : MarkSet} (h : OnlyToldSlots s u marks) (waits : StillWaits s u)
    (h' : OnlyToldSlots u t marks) : OnlyToldSlots s t marks := by
  obtain ⟨frame, slots, submission, apertures, views, requesters⟩ := h
  obtain ⟨frame', slots', submission', apertures', views', requesters'⟩ := h'
  refine ⟨by rw [frame', frame], fun n => ?_, submission'.trans submission, fun a => ?_, fun r => (views' r).trans (views r),
    fun r => ⟨?_, ?_⟩⟩
  · rcases slots' n with ⟨marked, waiting⟩ | ⟨same', listed'⟩
    · exact .inl ⟨marked, (waits n waiting).1⟩
    · exact (slots n).imp_right fun ⟨same, listed⟩ => ⟨same'.trans same, listed'.trans listed⟩
  · rcases apertures' a with ⟨n, marked, retires⟩ | ⟨same', view'⟩
    · exact .inl ⟨n, marked, waits.retires retires⟩
    · exact (apertures a).imp_right fun ⟨same, view⟩ => ⟨same'.trans same, fun r => (view' r).trans (view r)⟩
  · rw [(requesters' r).1, (requesters r).1]
  · rcases (requesters' r).2 with ⟨n, marked, halts⟩ | same'
    · exact .inl ⟨n, marked, waits.halts halts⟩
    · exact (requesters r).2.imp_right fun same => same'.trans same

theorem tell_submission (s : State) (lost : Bool) (n : SlotId) :
    (s.tell lost n).submission = s.submission ∨ (s.tell lost n).submission = s.submission.filter fun m => decide (m ≠ n) := by
  obtain ⟨-, e⟩ | ⟨-, -, e⟩ | ⟨-, a, g, -, -, e⟩ | ⟨-, r, -, -, e⟩ | ⟨-, -, -, -, e⟩ := tell_cases s lost n <;> rw [e]
  · exact .inl rfl
  · exact .inl rfl
  all_goals exact .inr rfl

/-- Only a WAITING slot that is told changes. -/
theorem tell_other (s : State) (lost : Bool) (n m : SlotId) :
    n = m ∧ (s.slots.get m).state = .waiting ∨
      (s.tell lost n).slots.get m = s.slots.get m ∧ (m ∈ (s.tell lost n).submission ↔ m ∈ s.submission) := by
  by_cases h : n = m
  · by_cases waiting : (s.slots.get n).state = .waiting
    · exact .inl ⟨h, h ▸ waiting⟩
    · have same : s.tell lost n = s := if_neg waiting
      rw [same]
      exact .inr ⟨rfl, .rfl⟩
  · refine .inr ⟨tell_slot_ne s lost h, ?_⟩
    rcases tell_submission s lost n with e | e <;> rw [e]
    simp [Ne.symm h]

/-- Only the aperture that the told slot retires changes, and leaves its view. -/
theorem tell_apertures (s : State) (lost : Bool) (n : SlotId) (a : ApIndex) :
    s.retires n a ∨
      (s.tell lost n).apertures.get a = s.apertures.get a ∧ ∀ r, a ∈ (s.tell lost n).views.get r ↔ a ∈ s.views.get r := by
  obtain ⟨-, e⟩ | ⟨-, -, e⟩ | ⟨-, b, g, retires, -, e⟩ | ⟨-, r, -, -, e⟩ | ⟨-, -, -, -, e⟩ := tell_cases s lost n
  case inr.inr.inl =>
    by_cases h : b = a
    · exact .inl (h ▸ retires)
    · right
      rw [e]
      refine ⟨vget_set_ne _ _ _ _ h, fun r => ?_⟩
      change a ∈ (s.views.set g.owner.val _ g.owner.isLt).get r ↔ _
      rw [vget_set]
      split
      · subst_vars
        simp [Ne.symm h]
      · rfl
  all_goals
    rw [e]
    exact .inr ⟨rfl, fun _ => .rfl⟩

theorem tell_views (s : State) (lost : Bool) (n : SlotId) (r : RequesterId) :
    ((s.tell lost n).views.get r).Sublist (s.views.get r) := by
  obtain ⟨-, e⟩ | ⟨-, -, e⟩ | ⟨-, b, g, -, -, e⟩ | ⟨-, q, -, -, e⟩ | ⟨-, -, -, -, e⟩ := tell_cases s lost n <;> rw [e]
  case inr.inr.inl =>
    change ((s.views.set g.owner.val _ g.owner.isLt).get r).Sublist _
    rw [vget_set]
    split
    · subst_vars
      exact List.filter_sublist
    · exact .refl _
  all_goals exact .refl _

/-- Only the requester that the told slot halts changes, in its state. -/
theorem tell_requesters (s : State) (lost : Bool) (n : SlotId) (r : RequesterId) :
    (s.tell lost n).requesters.get r = s.requesters.get r ∨
      s.halts n r ∧ (s.requesters.get r).state = .halting ∧
        (s.tell lost n).requesters.get r = { s.requesters.get r with state := .halted } := by
  obtain ⟨-, e⟩ | ⟨-, -, e⟩ | ⟨-, b, g, -, -, e⟩ | ⟨-, q, halts, halting, e⟩ | ⟨-, -, -, -, e⟩ := tell_cases s lost n <;> rw [e]
  case inr.inr.inr.inl =>
    by_cases h : q = r
    · subst h
      exact .inr ⟨halts, halting, vget_set_self ..⟩
    · exact .inl (vget_set_ne _ _ _ _ h)
  all_goals exact .inl rfl

/-- One slot of the mark set is told. -/
theorem tell_onlyToldSlots (s : State) (lost : Bool) {n : SlotId} {marks : MarkSet} (marked : marks.get n = true) :
    OnlyToldSlots s (s.tell lost n) marks := by
  refine ⟨tell_frame s lost n, fun m => ?_, ?_, fun a => ?_, tell_views s lost n, fun r => ?_⟩
  · exact (tell_other s lost n m).imp_left fun ⟨h, waiting⟩ => ⟨h ▸ marked, waiting⟩
  · rcases tell_submission s lost n with e | e <;> rw [e]
    exact List.filter_sublist
  · exact (tell_apertures s lost n a).imp_left fun retires => ⟨n, marked, retires⟩
  · rcases tell_requesters s lost n r with same | ⟨halts, -, halted⟩
    · rw [same]
      exact ⟨rfl, .inr rfl⟩
    · rw [halted]
      exact ⟨rfl, .inl ⟨n, marked, halts⟩⟩

theorem tellAll_onlyToldSlots (lost : Bool) (marks : MarkSet) (ns : List SlotId) (s : State) :
    OnlyToldSlots s (s.tellAll lost marks ns) marks ∧ StillWaits s (s.tellAll lost marks ns) := by
  induction ns generalizing s with
  | nil => exact ⟨.refl s marks, .refl s⟩
  | cons n ns ih =>
    rw [State.tellAll]
    split
    · next marked =>
      obtain ⟨only, waits⟩ := ih (s.tell lost n)
      exact ⟨(tell_onlyToldSlots s lost marked).trans (tell_stillWaits s lost n) only, (tell_stillWaits s lost n).trans waits⟩
    · exact ih s

/-! ### What becomes of a slot that is told -/

/-- Every WAITING retirement drains a RETIRING aperture of its own, and every WAITING halt a HALTING requester of its own. -/
structure State.Drains (s : State) : Prop where
  retiring : ∀ n a, s.retires n a → ∃ g, (s.apertures.get a).life = .retiring g
  oneRetirement : ∀ m n a, s.retires m a → s.retires n a → m = n
  halting : ∀ n r, s.halts n r → (s.requesters.get r).state = .halting
  oneHalt : ∀ m n r, s.halts m r → s.halts n r → m = n

theorem drains_of_laws {s : State} (retirements : RetireLaw s) (halts : HaltLaw s) : s.Drains where
  retiring n a h := by
    obtain ⟨waiting, command, aperture⟩ := h
    obtain ⟨-, -, serves, -⟩ := retirements
    obtain ⟨b, g, aperture', retiring⟩ := serves n waiting command
    obtain rfl : b = a := Option.some.inj (aperture'.symm.trans aperture)
    exact ⟨g, retiring⟩
  oneRetirement := retirements.2.2.2
  halting n r h := by
    obtain ⟨waiting, command, requester⟩ := h
    obtain ⟨-, -, serves, -⟩ := halts
    obtain ⟨q, requester', halting⟩ := serves n waiting command
    obtain rfl : q = r := Option.some.inj (requester'.symm.trans requester)
    exact halting
  oneHalt := halts.2.2.2

/-- From `u` to `t` slot `n` stays, and with it what it drains in `s`. -/
structure Undisturbed (s u t : State) (n : SlotId) : Prop where
  slot : t.slots.get n = u.slots.get n
  listed : n ∈ t.submission ↔ n ∈ u.submission
  aperture : ∀ a, s.retires n a → t.apertures.get a = u.apertures.get a
  view : ∀ a, s.retires n a → ∀ r, a ∈ t.views.get r ↔ a ∈ u.views.get r
  requester : ∀ r, s.halts n r → (t.requesters.get r).state = (u.requesters.get r).state

/-- `Told` of a slot holds across changes that leave the slot undisturbed. -/
theorem Told.congr {s u v t : State} {n : SlotId} {lost : Bool} {held : Prop} (before : Undisturbed s s u n)
    (behind : Undisturbed s v t n) (told : Told u v n lost held) : Told s t n lost held := by
  have retires : ∀ a, s.retires n a → u.retires n a := fun a h => by
    unfold State.retires
    rwa [before.slot]
  have halts : ∀ r, s.halts n r → u.halts n r := fun r h => by
    unfold State.halts
    rwa [before.slot]
  obtain ⟨waits, ends⟩ := told
  rw [before.slot] at waits ends
  refine ⟨fun h => ?_, fun h => ?_⟩
  · obtain ⟨slot, listed, aperture, requester⟩ := waits h
    refine ⟨behind.slot.trans slot, behind.listed.trans (listed.trans before.listed), fun a ha => ?_, fun r hr => ?_⟩
    · rw [behind.aperture a ha, aperture a (retires a ha), before.aperture a ha]
    · rw [behind.requester r hr, requester r (halts r hr), before.requester r hr]
  · obtain ⟨unlisted, words, slot, kept, retired, halted⟩ := ends h
    refine ⟨fun hn => unlisted (behind.listed.1 hn), words, behind.slot.trans slot, kept, fun a g ha retiring => ?_, fun r hr => ?_⟩
    · obtain ⟨word, aperture, view⟩ := retired a g (retires a ha) (by rw [before.aperture a ha, retiring])
      rw [before.aperture a ha] at word aperture
      exact ⟨word, (behind.aperture a ha).trans aperture, fun ha' => view ((behind.view a ha _).1 ha')⟩
    · rw [behind.requester r hr]
      exact halted r (halts r hr)

/-- One slot is told and the others are not: `Told` of it. -/
theorem told_tell {s : State} {n : SlotId} (draining : ∀ r, s.halts n r → (s.requesters.get r).state = .halting) (lost : Bool)
    (waiting : (s.slots.get n).state = .waiting) : Told s (s.tell lost n) n lost (s.bears n = true) := by
  obtain ⟨idle, -⟩ | ⟨-, held, e⟩ | ⟨last, a, g, retires, retiring, e⟩ | ⟨last, r, halts, halting, e⟩ |
    ⟨-, last, noRetire, noHalt, e⟩ := tell_cases s lost n
  · exact absurd waiting idle
  · rw [e]
    exact ⟨fun _ => ⟨by simp, .rfl, fun _ _ => rfl, fun _ _ => rfl⟩, fun h => absurd held h⟩
  · rw [e]
    refine ⟨fun h => by simp [last] at h, fun _ => ⟨by simp, _, by rw [withDone_slot, if_pos rfl], fun h => absurd retires.2.1 h, ?_, ?_⟩⟩
    · intro b h retires' retiring'
      obtain rfl : a = b := Option.some.inj (retires.2.2.symm.trans retires'.2.2)
      obtain rfl : g = h := by simpa [retiring] using retiring'
      refine ⟨rfl, vget_set_self .., ?_⟩
      change a ∉ (s.views.set g.owner.val _ g.owner.isLt).get g.owner
      rw [vget_set_self]
      simp
    · intro r halts
      exact absurd (halts.2.1.symm.trans retires.2.1) (by simp)
  · rw [e]
    refine ⟨fun h => by simp [last] at h, fun _ => ⟨by simp, _, by rw [withDone_slot, if_pos rfl], fun _ => rfl, ?_, ?_⟩⟩
    · intro a g retires
      exact absurd (halts.2.1.symm.trans retires.2.1) (by simp)
    · intro q halts'
      obtain rfl : r = q := Option.some.inj (halts.2.2.symm.trans halts'.2.2)
      simp [State.withRequester]
  · rw [e]
    refine ⟨fun h => by simp [last] at h, fun _ => ⟨by simp, _, by rw [withDone_slot, if_pos rfl], fun _ => rfl, ?_, ?_⟩⟩
    · exact fun a g retires retiring => absurd retiring (noRetire a g retires)
    · exact fun r halts => absurd (draining r halts) (noHalt r halts)

/-- While slots are told that are not slot `n`, what `n` drains stays. -/
theorem OnlyToldSlots.undisturbed {s u t : State} {marks : MarkSet} (only : OnlyToldSlots u t marks) (drains : s.Drains)
    (waits : StillWaits s u) {n : SlotId} (unmarked : marks.get n = false) : Undisturbed s u t n := by
  obtain ⟨-, slots, -, apertures, -, requesters⟩ := only
  have other : ∀ m, marks.get m = true → m ≠ n := by
    rintro m marked rfl
    simp [marked] at unmarked
  obtain ⟨same, listed⟩ := (slots n).resolve_left fun h => other n h.1 rfl
  have kept : ∀ a, s.retires n a → ¬∃ m, marks.get m = true ∧ u.retires m a := by
    rintro a retires ⟨m, marked, retires'⟩
    exact other m marked (drains.oneRetirement m n a (waits.retires retires') retires)
  refine ⟨same, listed, fun a retires => ((apertures a).resolve_left (kept a retires)).1,
    fun a retires => ((apertures a).resolve_left (kept a retires)).2,
    fun r halts => congrArg Requester.state ((requesters r).2.resolve_left ?_)⟩
  rintro ⟨m, marked, halts'⟩
  exact other m marked (drains.oneHalt m n r (waits.halts halts') halts)

theorem tellAll_append (lost : Bool) (marks : MarkSet) (l₁ l₂ : List SlotId) (s : State) :
    s.tellAll lost marks (l₁ ++ l₂) = (s.tellAll lost marks l₁).tellAll lost marks l₂ := by
  induction l₁ generalizing s with
  | nil => rfl
  | cons n l₁ ih => exact ih _

theorem tellAll_congr {lost : Bool} {marks marks' : MarkSet} {ns : List SlotId} (same : ∀ n ∈ ns, marks.get n = marks'.get n)
    (s : State) : s.tellAll lost marks ns = s.tellAll lost marks' ns := by
  induction ns generalizing s with
  | nil => rfl
  | cons n ns ih =>
    rw [State.tellAll, State.tellAll, same n (by simp)]
    exact ih (fun m hm => same m (by simp [hm])) _

/-- A slot keeps what it drains while the slots of a list without it are told. -/
theorem tellAll_undisturbed {s u : State} (lost : Bool) (marks : MarkSet) {ns : List SlotId} {n : SlotId} (notIn : n ∉ ns)
    (drains : s.Drains) (waits : StillWaits s u) : Undisturbed s u (u.tellAll lost marks ns) n := by
  have without : u.tellAll lost marks ns = u.tellAll lost (marks.set n.val false n.isLt) ns :=
    tellAll_congr (fun m hm => (vget_set_ne marks n m false fun h => notIn (h ▸ hm)).symm) u
  rw [without]
  exact (tellAll_onlyToldSlots lost _ ns u).1.undisturbed drains waits (vget_set_self ..)

/-- Each WAITING slot of the mark set is told. -/
theorem told_tellAll {s : State} (drains : s.Drains) (lost : Bool) {marks : MarkSet} {n : SlotId} (marked : marks.get n = true)
    (waiting : (s.slots.get n).state = .waiting) :
    Told s (s.tellAll lost marks allSlots) n lost (s.bears n = true) := by
  obtain ⟨l₁, l₂, split, before, behind⟩ : ∃ l₁ l₂, allSlots = l₁ ++ n :: l₂ ∧ n ∉ l₁ ∧ n ∉ l₂ := by
    obtain ⟨l₁, l₂, split⟩ := List.append_of_mem (mem_allSlots n)
    have nodup : allSlots.Nodup := by decide
    rw [split] at nodup
    obtain ⟨-, nodup₂, apart⟩ := List.nodup_append.1 nodup
    exact ⟨l₁, l₂, split, fun h => apart n h n (by simp) rfl, (List.nodup_cons.1 nodup₂).1⟩
  rw [split, tellAll_append, State.tellAll, if_pos marked]
  have first := tellAll_undisturbed lost marks before drains (.refl s)
  have waits := (tellAll_onlyToldSlots lost marks l₁ s).2
  have sameBearers : (s.tellAll lost marks l₁).bears n = s.bears n := by rw [tellAll_frame]; rfl
  have told := told_tell (s := s.tellAll lost marks l₁) (n := n)
    (fun r halts => by rw [first.requester r (waits.halts halts)]; exact drains.halting n r (waits.halts halts)) lost
    (by rwa [first.slot])
  rw [sameBearers] at told
  exact told.congr first (tellAll_undisturbed lost marks behind drains (waits.trans (tell_stillWaits _ lost n)))

end Sys2Proof.Machine

/-! ## The departure of a write or a read -/

namespace Sys2Proof.Machine

/-- From `s` to `u` the commands stand as they were, and so does what they drain. -/
structure SameCommands (s u : State) : Prop where
  slots : u.slots = s.slots
  submission : u.submission = s.submission
  apertures : u.apertures = s.apertures
  views : u.views = s.views
  halting : ∀ r, (s.requesters.get r).state = .halting → (u.requesters.get r).state = .halting

theorem capture_keepsHalting (s : State) (r : RequesterId) (f : FaultRecord) {r' : RequesterId}
    (halting : (s.requesters.get r').state = .halting) : ((s.capture r f).requesters.get r').state = .halting := by
  rw [capture_requester]
  split
  · next h =>
    subst h
    simp [Requester.stops, halting]
  · exact halting

theorem SameCommands.capture {s u : State} (h : SameCommands s u) (r : RequesterId) (f : FaultRecord) :
    SameCommands s (u.capture r f) where
  slots := by rw [capture_frame]; exact h.slots
  submission := by rw [capture_frame]; exact h.submission
  apertures := by rw [capture_frame]; exact h.apertures
  views := by rw [capture_frame]; exact h.views
  halting r' halting := capture_keepsHalting u r f (h.halting r' halting)

theorem SameCommands.undisturbed {s u : State} (h : SameCommands s u) (drains : s.Drains) (n : SlotId) : Undisturbed s s u n where
  slot := by rw [h.slots]
  listed := by rw [h.submission]
  aperture a _ := by rw [h.apertures]
  view a _ r := by rw [h.views]
  requester r halts := (h.halting r (drains.halting n r halts)).trans (drains.halting n r halts).symm

theorem SameCommands.drains {s u : State} (h : SameCommands s u) (drains : s.Drains) : u.Drains := by
  have retires : ∀ {n a}, u.retires n a → s.retires n a := fun hr => by
    unfold State.retires at hr
    rwa [h.slots] at hr
  have halts : ∀ {n r}, u.halts n r → s.halts n r := fun hr => by
    unfold State.halts at hr
    rwa [h.slots] at hr
  refine ⟨fun n a hr => ?_, fun m n a hm hn => drains.oneRetirement m n a (retires hm) (retires hn),
    fun n r hr => h.halting r (drains.halting n r (halts hr)), fun m n r hm hn => drains.oneHalt m n r (halts hm) (halts hn)⟩
  rw [h.apertures]
  exact drains.retiring n a (retires hr)

/-- The slots of a mark set are told after a change that leaves the commands as they were. -/
theorem told_departed {s u : State} (drains : s.Drains) (same : SameCommands s u) (lost : Bool) (marks : MarkSet) :
    OnlyToldSlots u (u.tellAll lost marks allSlots) marks ∧
      ∀ n, marks.get n = true → (s.slots.get n).state = .waiting →
        Told s (u.tellAll lost marks allSlots) n lost (u.bears n = true) := by
  refine ⟨(tellAll_onlyToldSlots lost marks allSlots u).1, fun n marked waiting => ?_⟩
  have told := told_tellAll (same.drains drains) lost marked (by rwa [same.slots])
  exact told.congr (same.undisturbed drains n) ⟨rfl, .rfl, fun _ _ => rfl, fun _ _ _ => .rfl, fun _ _ => rfl⟩

theorem bears_iff (s : State) (n : SlotId) :
    s.bears n = true ↔ (∃ e ∈ s.pwq, e.marks.get n = true) ∨ ∃ d ∈ s.rdt, d.marks.get n = true := by
  simp [State.bears]

theorem expires_of_overdue {s : State} {time : Nat} (overdue : s.overdue time) : s.expires time = true := by
  obtain ⟨limited, reached⟩ := overdue
  rw [State.expires, decide_eq_true limited, decide_eq_true reached]
  rfl

theorem exec_answer_of_busy {s : State} {p : PortTagId} {k : PortKind} {time : Nat} (busy : s.portTags.get p = .busy k time)
    (a : Answer) : exec (.answer p a) s = .next ((s.withPortTag p .free).ownerTakes p k (outcomeOf a)) := by
  have run : exec (.answer p a) s = execAnswer p a s := rfl
  rw [run, execAnswer, busy]
  rfl

theorem exec_expiry_of_overdue {s : State} {p : PortTagId} {k : PortKind} {time : Nat} (busy : s.portTags.get p = .busy k time)
    (overdue : s.overdue time) : exec (.expiry p) s = .next ((s.withPortTag p .quarantined).ownerTakes p k .timeout) := by
  have run : exec (.expiry p) s = execExpiry p s := rfl
  rw [run, execExpiry, busy]
  exact congrArg Host.Outcome.next (if_pos (expires_of_overdue overdue))

/-- What ends a request hands its outcome to the tag's owner, the tag in its next state. -/
theorem exec_of_endsRequest {s : State} {p : PortTagId} {k : PortKind} {time : Nat} {c : Instr} {tag : PortTag}
    {failure : Option Qualifier} (busy : s.portTags.get p = .busy k time) (ends : s.endsRequest p time c tag failure) :
    ∃ o, failureOf o = failure ∧ exec c s = .next ((s.withPortTag p tag).ownerTakes p k o) ∧
      ∀ data, o = .ok data → c = .answer p (.ok data) := by
  obtain ⟨data, rfl, rfl, rfl⟩ | ⟨rfl, rfl, rfl⟩ | ⟨rfl, overdue, rfl, rfl⟩ := ends
  · exact ⟨.ok data, rfl, exec_answer_of_busy busy _, by simp⟩
  · exact ⟨.error, rfl, exec_answer_of_busy busy _, by simp⟩
  · exact ⟨.timeout, rfl, exec_expiry_of_overdue busy overdue, by simp⟩

/-- The loss, if there is one, is captured. -/
def State.captureLoss (s : State) (r : RequesterId) (f : Qualifier → FaultRecord) : Option Qualifier → State
  | none => s
  | some q => s.capture r (f q)

theorem captureLoss_queues (s : State) (r : RequesterId) (f : Qualifier → FaultRecord) (failure : Option Qualifier) :
    (s.captureLoss r f failure).pwq = s.pwq ∧ (s.captureLoss r f failure).rdt = s.rdt := by
  cases failure with
  | none => exact ⟨rfl, rfl⟩
  | some q =>
    change (s.capture r (f q)).pwq = _ ∧ (s.capture r (f q)).rdt = _
    rw [capture_frame]
    exact ⟨rfl, rfl⟩

theorem answerRead_queues (s : State) (d : ReadEntry) (o : PortOutcome) :
    (s.answerRead d o).pwq = s.pwq ∧ (s.answerRead d o).rdt = s.rdt := by
  rw [answerRead_frame]
  exact ⟨rfl, rfl⟩

theorem SameCommands.captureLoss {s u : State} (h : SameCommands s u) (r : RequesterId) (f : Qualifier → FaultRecord)
    (failure : Option Qualifier) : SameCommands s (u.captureLoss r f failure) := by
  cases failure with
  | none => exact h
  | some q => exact h.capture r (f q)

theorem departWrite_split {s : State} {p : PortTagId} {l₁ l₂ : List PostedWrite} {e : PostedWrite}
    (first : FirstOf (PostedWrite.holdsTag p) s.pwq l₁ e l₂) (o : PortOutcome) :
    s.departWrite p o =
      ({ s with pwq := l₁ ++ l₂, rdt := freed e.seq s.rdt }.captureLoss e.requester
        (fun q => .writeLost q e.linkAddr e.aperture) (failureOf o)).tellAll (failureOf o).isSome e.marks allSlots := by
  obtain ⟨split, before, holds⟩ := first
  unfold State.departWrite
  rw [split, find_split _ before holds, eraseP_split _ before holds]
  cases o <;> rfl

theorem departRead_split {s : State} {p : PortTagId} {l₁ l₂ : List ReadEntry} {d : ReadEntry}
    (first : FirstOf (ReadEntry.holdsTag p) s.rdt l₁ d l₂) (o : PortOutcome) :
    s.departRead p o =
      (({ s with rdt := l₁ ++ l₂ }.answerRead d o).captureLoss d.requester
        (fun q => .memoryError q d.linkAddr d.aperture) (failureOf o)).tellAll (failureOf o).isSome d.marks allSlots := by
  obtain ⟨split, before, holds⟩ := first
  unfold State.departRead
  rw [split, find_split _ before holds, eraseP_split _ before holds]
  cases o <;> rfl

theorem marks_of_freed (k : Nat) (l : List ReadEntry) (n : SlotId) :
    (∃ d ∈ freed k l, d.marks.get n = true) ↔ ∃ d ∈ l, d.marks.get n = true := by
  simp [freed]

theorem length_fullAnswer (c n : Nat) (data : List Byte) : (fullAnswer c n data).length = n := by
  simp [fullAnswer]
  omega

theorem getElem?_fullAnswer (c : Nat) {n i : Nat} (data : List Byte) (asked : i < n) (answered : i < data.length) :
    (fullAnswer c n data)[i]? = data[i]? := by
  rw [fullAnswer, List.getElem?_append_left (by simp; omega), List.getElem?_take_of_lt asked]

/-- A read's departure before its commands are told. -/
theorem readLeft_of_endsRequest {s : State} {c : Instr} {p : PortTagId} {tag : PortTag} {l₁ l₂ : List ReadEntry} {d : ReadEntry}
    {o : PortOutcome} (data : ∀ data, o = .ok data → c = .answer p (.ok data)) :
    ReadLeft s (({ s.withPortTag p tag with rdt := l₁ ++ l₂ }.answerRead d o).captureLoss d.requester
      (fun q => .memoryError q d.linkAddr d.aperture) (failureOf o)) c p tag (failureOf o) l₁ d l₂ := by
  cases o with
  | ok bytes =>
    intro bytes' same
    obtain rfl : bytes = bytes' := by simpa [data bytes rfl] using same
    refine ⟨fullAnswer s.freeCount d.length bytes, s.freeCount + (d.length - bytes.length), length_fullAnswer _ _ _,
      fun i asked answered => getElem?_fullAnswer _ _ asked answered, fun enough => by omega, ?_⟩
    rfl
  | error => exact captured_capture _ _ _
  | timeout => exact captured_capture _ _ _

theorem writeDeparture {s : State} {p : PortTagId} {time : Nat} {c : Instr} {tag : PortTag} {failure : Option Qualifier}
    (drains : s.Drains) (ends : s.endsRequest p time c tag failure) {l₁ l₂ : List PostedWrite} {e : PostedWrite}
    (busy : s.portTags.get p = .busy .write time) (first : FirstOf (PostedWrite.holdsTag p) s.pwq l₁ e l₂) :
    ∃ u t, exec c s = .next t ∧ WriteLeft s u p tag failure l₁ e l₂ ∧ OnlyToldSlots u t e.marks ∧
      ∀ n, e.marks.get n = true → (s.slots.get n).state = .waiting →
        Told s t n failure.isSome ((∃ x ∈ l₁ ++ l₂, x.marks.get n = true) ∨ ∃ d ∈ s.rdt, d.marks.get n = true) := by
  obtain ⟨o, rfl, ran, -⟩ := exec_of_endsRequest busy ends
  have left : SameCommands s { s.withPortTag p tag with pwq := l₁ ++ l₂, rdt := freed e.seq s.rdt } :=
    ⟨rfl, rfl, rfl, rfl, fun _ h => h⟩
  obtain ⟨only, told⟩ := told_departed drains
    (left.captureLoss e.requester (fun q => .writeLost q e.linkAddr e.aperture) (failureOf o)) (failureOf o).isSome e.marks
  refine ⟨_, _, ran.trans (congrArg Host.Outcome.next (departWrite_split (s := s.withPortTag p tag) first o)), ?_, only,
    fun n marked waiting => ?_⟩
  · cases o with
    | ok data => rfl
    | error => exact captured_capture _ _ _
    | timeout => exact captured_capture _ _ _
  · have bearers := told n marked waiting
    obtain ⟨pwq, rdt⟩ := captureLoss_queues { s.withPortTag p tag with pwq := l₁ ++ l₂, rdt := freed e.seq s.rdt } e.requester
      (fun q => .writeLost q e.linkAddr e.aperture) (failureOf o)
    rwa [bears_iff, pwq, rdt, marks_of_freed] at bearers

theorem readDeparture {s : State} {p : PortTagId} {time : Nat} {c : Instr} {tag : PortTag} {failure : Option Qualifier}
    (drains : s.Drains) (ends : s.endsRequest p time c tag failure) {l₁ l₂ : List ReadEntry} {d : ReadEntry}
    (busy : s.portTags.get p = .busy .read time) (first : FirstOf (ReadEntry.holdsTag p) s.rdt l₁ d l₂) :
    ∃ u t, exec c s = .next t ∧ ReadLeft s u c p tag failure l₁ d l₂ ∧ OnlyToldSlots u t d.marks ∧
      ∀ n, d.marks.get n = true → (s.slots.get n).state = .waiting →
        Told s t n failure.isSome ((∃ e ∈ s.pwq, e.marks.get n = true) ∨ ∃ x ∈ l₁ ++ l₂, x.marks.get n = true) := by
  obtain ⟨o, rfl, ran, data⟩ := exec_of_endsRequest busy ends
  have left : SameCommands s ({ s.withPortTag p tag with rdt := l₁ ++ l₂ }.answerRead d o) := by
    rw [answerRead_frame]
    exact ⟨rfl, rfl, rfl, rfl, fun _ h => h⟩
  obtain ⟨only, told⟩ := told_departed drains
    (left.captureLoss d.requester (fun q => .memoryError q d.linkAddr d.aperture) (failureOf o)) (failureOf o).isSome d.marks
  refine ⟨_, _, ran.trans (congrArg Host.Outcome.next (departRead_split (s := s.withPortTag p tag) first o)),
    readLeft_of_endsRequest data, only, fun n marked waiting => ?_⟩
  have bearers := told n marked waiting
  obtain ⟨pwq, rdt⟩ := captureLoss_queues ({ s.withPortTag p tag with rdt := l₁ ++ l₂ }.answerRead d o) d.requester
    (fun q => .memoryError q d.linkAddr d.aperture) (failureOf o)
  obtain ⟨pwq', rdt'⟩ := answerRead_queues { s.withPortTag p tag with rdt := l₁ ++ l₂ } d o
  rwa [bears_iff, pwq, rdt, pwq', rdt'] at bearers

/-- Settles O28: the entry leaves and its loss is captured, and then every slot of its mark set is told in turn. -/
theorem departureAdvancesTheCommandsThatMarkedIt : Obligations.DepartureAdvancesTheCommandsThatMarkedIt := by
  intro s p time c tag failure retirements halts ends
  have drains := drains_of_laws retirements halts
  exact ⟨fun _ _ _ busy first => writeDeparture drains ends busy first, fun _ _ _ busy first => readDeparture drains ends busy first⟩

end Sys2Proof.Machine

/-! ## How a WAITING command ends -/

namespace Sys2Proof.Machine

/-! ### A take changes its own slot alone -/

@[simp] theorem release_slots (s : State) (r : RequesterId) (x : LinkReply) : (s.release r x).slots = s.slots := by
  rw [release_frame]

@[simp] theorem orphan_slots (s : State) (p : Walk → Bool) (x : LinkReply) : (s.orphan p x).slots = s.slots := by
  rw [orphan_frame]

@[simp] theorem capture_slots (s : State) (r : RequesterId) (f : FaultRecord) : (s.capture r f).slots = s.slots := by
  rw [capture_frame]

@[simp] theorem mark_slots (s : State) (n : SlotId) (pw : PostedWrite → Bool) (pr : ReadEntry → Bool) :
    (s.mark n pw pr).slots = s.slots := rfl

section Takes
variable (s : State) {m n : SlotId} (other : m ≠ n)
include other

theorem waitOrComplete_slot_ne : (s.waitOrComplete m).slots.get n = s.slots.get n := by
  unfold State.waitOrComplete
  split
  · simp [other]
  · exact complete_slot_ne s other

theorem takeApSet_slot_ne : (s.takeApSet m).slots.get n = s.slots.get n := by
  unfold State.takeApSet
  dsimp only
  repeat' split
  all_goals simp [State.grantAperture, other]

theorem takeApRetire_slot_ne : (s.takeApRetire m).slots.get n = s.slots.get n := by
  unfold State.takeApRetire
  repeat' split
  all_goals simp [State.retire, State.dropEntries, waitOrComplete_slot_ne, other]

theorem takeApInvalidate_slot_ne : (s.takeApInvalidate m).slots.get n = s.slots.get n := by
  unfold State.takeApInvalidate
  dsimp only
  repeat' split
  all_goals simp [State.invalidate, State.dropEntries, waitOrComplete_slot_ne, other]

theorem takeTcPreload_slot_ne : (s.takeTcPreload m).slots.get n = s.slots.get n := by
  unfold State.takeTcPreload State.preloadPresent State.preloadWalk
  dsimp only
  repeat' split
  all_goals simp [other]

theorem takeRequester_slot_ne {body : RequesterId → State} (taken : ∀ r, (body r).slots.get n = s.slots.get n) :
    (s.takeRequester m body).slots.get n = s.slots.get n := by
  unfold State.takeRequester
  split
  · simp [other]
  · exact taken _

theorem enable_slot_ne (r : RequesterId) : (s.enable m r).slots.get n = s.slots.get n := by
  unfold State.enable
  dsimp only
  split <;> simp [other]

theorem disable_slot_ne (r : RequesterId) : (s.disable m r).slots.get n = s.slots.get n := by
  unfold State.disable
  dsimp only
  split <;> simp [other]

theorem halt_slot_ne (r : RequesterId) : (s.halt m r).slots.get n = s.slots.get n := by
  unfold State.halt State.drainRequester
  dsimp only
  split <;> simp [waitOrComplete_slot_ne, other]

theorem resume_slot_ne (r : RequesterId) : (s.resume m r).slots.get n = s.slots.get n := by
  unfold State.resume
  dsimp only
  split <;> simp [other]

end Takes

/-- A take spares a WAITING slot: the slot that it takes is PENDING. -/
theorem takeOf_spares {s : State} {c : Option Command} {body : SlotId → State} {n : SlotId}
    (waiting : (s.slots.get n).state = .waiting) (spares : ∀ m, m ≠ n → (body m).slots.get n = s.slots.get n) :
    (s.takeOf c body).slots.get n = s.slots.get n := by
  obtain ⟨m, next, -, e⟩ | e := takeOf_cases s c body
  · rw [e]
    refine spares m ?_
    rintro rfl
    simp [(nextTake_some next).2] at waiting
  · rw [e]

theorem takeOf_takeRequester_spares {s : State} {c : Option Command} {body : SlotId → RequesterId → State} {n : SlotId}
    (waiting : (s.slots.get n).state = .waiting) (spares : ∀ m r, m ≠ n → (body m r).slots.get n = s.slots.get n) :
    (s.takeOf c fun m => s.takeRequester m (body m)).slots.get n = s.slots.get n :=
  takeOf_spares waiting fun m other => takeRequester_slot_ne s other fun r => spares m r other

/-! ### The other commands -/

theorem finishWaiters_slots {t : PortTagId} {finish : Walk → Request → State → State}
    (keeps : ∀ w p s, (finish w p s).slots = s.slots) (k : Nat) (s : State) : (State.finishWaiters t finish k s).slots = s.slots :=
  finishWaiters_keeps (fun s' => s'.slots = s.slots) (fun _ _ _ _ hs _ _ => (keeps ..).trans hs) k s rfl

section Spares
variable {s : State} {n : SlotId} (waiting : (s.slots.get n).state = .waiting)
include waiting

theorem endPreload_spares (m : SlotId) (o : PreloadEnd) : (s.endPreload m o).slots.get n = s.slots.get n := by
  obtain ⟨running, words, st, code, q, -, e⟩ | ⟨-, e⟩ := endPreload_cases s m o
  · rw [e, withEnd_slot, if_neg]
    rintro rfl
    simp [running] at waiting
  · rw [e]

theorem endPreloadOf_spares (w : Walk) (o : PreloadEnd) : (s.endPreloadOf w o).slots.get n = s.slots.get n := by
  unfold State.endPreloadOf
  split
  · rfl
  · exact endPreload_spares waiting _ o

/-- A word write spares a WAITING slot, or is a part reset. -/
theorem hostWriteAt_spares (w : WindowWord) (v : Word) :
    (s.hostWriteAt w v).slots.get n = s.slots.get n ∨ ((s.hostWriteAt w v).slots.get n).state = .free := by
  have other : ∀ m : SlotId, (s.slots.get m).state ≠ .waiting → m ≠ n := fun m h => by
    rintro rfl
    exact h waiting
  cases w with
  | control =>
    simp only [State.hostWriteAt, State.hostControl]
    split
    · right
      simp [State.partReset, State.reset]
    · exact .inl rfl
  | slot m k =>
    left
    simp only [State.hostWriteAt, State.hostWord, State.hostWord7, State.startSlot, State.ackSlot]
    split
    · split
      · next free => simp [other m (by simp [free])]
      · rfl
    · split
      · rfl
      · split
        · next free => simp [other m (by simp [free])]
        · rfl
      · split
        · next isEnded =>
          have : (s.slots.get m).state ≠ .waiting := fun h => by simp [ended, h] at isEnded
          simp [other m this]
        · rfl
      · rfl
  | id => exact .inl rfl
  | intStatus => exact .inl rfl
  | intEnable => exact .inl rfl
  | responseLimit => exact .inl rfl
  | unlisted => exact .inl rfl

theorem hostWrite_spares (w : WindowWord) (v : Word) :
    (s.hostWrite w v).slots.get n = s.slots.get n ∨ ((s.hostWrite w v).slots.get n).state = .free := by
  unfold State.hostWrite
  split
  · exact .inl rfl
  · exact hostWriteAt_spares waiting w v

theorem hostAccess_spares (off : Nat) (bytes : List Byte) :
    (s.hostAccess off bytes).slots.get n = s.slots.get n ∨ ((s.hostAccess off bytes).slots.get n).state = .free := by
  unfold State.hostAccess
  split
  · exact .inl rfl
  · split
    · exact hostWriteAt_spares waiting _ _
    · split
      · exact .inl rfl
      · exact .inl rfl

theorem completeWalk_spares (t : PortTagId) (w : Walk) (o : PortOutcome) : (s.completeWalk t w o).slots.get n = s.slots.get n := by
  have resumed : ∀ (pe : PageEntry) w p s, (State.resumeWaiter pe w p s).slots = s.slots := by
    intros; rw [resumeWaiter_frame]
  have noPage : ∀ w p s, (State.noPageWaiter w p s).slots = s.slots := by intros; rw [noPageWaiter_frame]
  have walkError : ∀ (q : Qualifier) w p s, (State.walkErrorWaiter q w p s).slots = s.slots := by
    intros; rw [walkErrorWaiter_frame]
  have turns : ∀ {finish : Walk → Request → State → State} {k : Nat} {u : State} {o : PreloadEnd},
      (∀ w p s, (finish w p s).slots = s.slots) → u.slots = s.slots →
      ((State.finishWaiters t finish k (u.endPreloadOf w o)).removeWalk t).slots.get n = s.slots.get n := by
    intro finish k u o spares same
    calc
      _ = (u.endPreloadOf w o).slots.get n := congrArg (·.get n) (finishWaiters_slots spares k _)
      _ = u.slots.get n := endPreloadOf_spares (by rwa [same]) w o
      _ = s.slots.get n := by rw [same]
  unfold State.completeWalk
  split
  · dsimp only
    split
    · exact turns (resumed _) rfl
    · exact turns noPage rfl
  · exact turns (walkError _) rfl
  · exact turns (walkError _) rfl

theorem departWalk_spares (t : PortTagId) (o : PortOutcome) : (s.departWalk t o).slots.get n = s.slots.get n := by
  unfold State.departWalk
  split
  · rfl
  · split
    · rfl
    · exact completeWalk_spares waiting t _ o

end Spares

/-! ### A halt stays in force until its requester is HALTED (R43) -/

/-- Requester `r` is HALTED, or slot `n` halts it and it is HALTING. -/
def State.haltRuns (s : State) (n : SlotId) (r : RequesterId) : Prop :=
  (s.requesters.get r).state = .halted ∨ s.halts n r ∧ (s.requesters.get r).state = .halting

theorem State.halts.same_slot {s t : State} {n : SlotId} {r : RequesterId} (halts : s.halts n r)
    (slot : t.slots.get n = s.slots.get n) : t.halts n r := by
  unfold State.halts
  rwa [slot]

theorem State.haltRuns.tell {s : State} {n : SlotId} {r : RequesterId} (runs : s.haltRuns n r) (lost : Bool) (m : SlotId) :
    (s.tell lost m).haltRuns n r := by
  obtain halted | ⟨halts, halting⟩ := runs
  · obtain same | ⟨-, -, becomes⟩ := tell_requesters s lost m r
    · exact .inl (by rw [same]; exact halted)
    · exact .inl (by rw [becomes])
  · by_cases other : m = n
    · subst other
      obtain ⟨-, e⟩ | ⟨-, -, e⟩ | ⟨-, a, g, retires, -, -⟩ | ⟨-, q, halts', -, e⟩ | ⟨-, -, -, noHalt, -⟩ := tell_cases s lost m
      · rw [e]
        exact .inr ⟨halts, halting⟩
      · rw [e]
        obtain ⟨waiting, command, requester⟩ := halts
        obtain ⟨command', -, -, requester'⟩ :=
          slot_congr (sl' := (s.withWords m (lossWords (s.slots.get m) lost)).slots.get m) (sl := s.slots.get m)
            (by simp [slotWord, lossWords_word0])
        exact .inr ⟨⟨by simpa using waiting, command' ▸ command, requester' ▸ requester⟩, halting⟩
      · exact absurd (halts.2.1.symm.trans retires.2.1) (by simp)
      · obtain rfl : q = r := Option.some.inj (halts'.2.2.symm.trans halts.2.2)
        exact .inl (by rw [e]; simp [State.withRequester])
      · exact absurd halting (noHalt r halts)
    · obtain same | ⟨-, -, becomes⟩ := tell_requesters s lost m r
      · exact .inr ⟨halts.same_slot (tell_slot_ne s lost other), by rw [same]; exact halting⟩
      · exact .inl (by rw [becomes])

theorem State.haltRuns.tellAll {s : State} {n : SlotId} {r : RequesterId} (runs : s.haltRuns n r) (lost : Bool) (marks : MarkSet)
    (ns : List SlotId) : (s.tellAll lost marks ns).haltRuns n r := by
  induction ns generalizing s with
  | nil => exact runs
  | cons m ns ih =>
    rw [State.tellAll]
    split
    · exact ih (runs.tell lost m)
    · exact ih runs

theorem State.haltRuns.complete {s : State} {n : SlotId} {r : RequesterId} (halts : s.halts n r)
    (halting : (s.requesters.get r).state = .halting) : (s.complete n).haltRuns n r := by
  obtain ⟨waiting, command, requester⟩ := halts
  left
  rw [complete_of_reqHalt command requester, if_pos halting]
  simp [State.withRequester]

/-! ### What a command does to a WAITING slot -/

@[simp] theorem enter_slots (s : State) (a : ApIndex) (ord : ReadOrder) (m : MemAddr) (q : Request) :
    (s.enter a ord m q).slots = s.slots := by rw [enter_frame]

@[simp] theorem miss_slots (s : State) (a : ApIndex) (gen : Generation) (page : Nat) (m : MemAddr) (q : Request) :
    (s.miss a gen page m q).slots = s.slots := by rw [miss_frame]

theorem translate_slots (s : State) (a : ApIndex) (g : Grant) (q : Request) : (s.translate a g q).slots = s.slots := by
  unfold State.translate State.hit
  dsimp only
  repeat' split
  all_goals simp

theorem checkArrival_slots (s : State) (q : Request) : (s.checkArrival q).slots = s.slots := by
  unfold State.checkArrival State.checkAdmission
  repeat' split
  all_goals simp [translate_slots]

theorem arbitrate_slots (s : State) (t : PortTagId) : (s.arbitrate t).slots = s.slots := by
  obtain ⟨w, -, h⟩ | ⟨-, e, -, h | h⟩ | ⟨-, d, -, h | h⟩ | h := arbitrate_cases s t
  · rw [h]; rfl
  · rw [h.1]; rfl
  · rw [h.1]; rfl
  · rw [h.1]; rfl
  · rw [h.1]; rfl
  · rw [h]

/-- From `s` to `t` slot `n`, which waits, is spared or freed by a reset; or a departure tells slots, or the slot's command is
completed. -/
def WaitEnds (s t : State) (n : SlotId) : Prop :=
  t.slots.get n = s.slots.get n ∨ (t.slots.get n).state = .free ∨
    (∃ u lost marks, SameCommands s u ∧ t = u.tellAll lost marks allSlots) ∨ t = s.complete n

theorem ownerTakes_waitEnds {s : State} {n : SlotId} (waiting : (s.slots.get n).state = .waiting) (p : PortTagId) (tag : PortTag)
    (k : PortKind) (o : PortOutcome) : WaitEnds s ((s.setPortTag p tag).ownerTakes p k o) n := by
  cases k with
  | walk => exact .inl (departWalk_spares (s := s.setPortTag p tag) waiting p o)
  | write =>
    obtain nowhere | ⟨l₁, e, l₂, first⟩ := split_at_first (PostedWrite.holdsTag p) s.pwq
    · refine .inl (congrArg (fun t => t.slots.get n) (show State.departWrite _ p o = s.setPortTag p tag from ?_))
      have : s.pwq.find? (PostedWrite.holdsTag p) = none := find_none _ nowhere
      unfold State.departWrite
      rw [State.setPortTag_pwq, this]
    · have left : SameCommands s { s.setPortTag p tag with pwq := l₁ ++ l₂, rdt := freed e.seq s.rdt } :=
        ⟨rfl, rfl, rfl, rfl, fun _ h => h⟩
      exact .inr (.inr (.inl ⟨_, _, _, left.captureLoss _ _ _, departWrite_split (s := s.setPortTag p tag) first o⟩))
  | read =>
    obtain nowhere | ⟨l₁, d, l₂, first⟩ := split_at_first (ReadEntry.holdsTag p) s.rdt
    · refine .inl (congrArg (fun t => t.slots.get n) (show State.departRead _ p o = s.setPortTag p tag from ?_))
      have : s.rdt.find? (ReadEntry.holdsTag p) = none := find_none _ nowhere
      unfold State.departRead
      rw [State.setPortTag_rdt, this]
    · have left : SameCommands s ({ s.setPortTag p tag with rdt := l₁ ++ l₂ }.answerRead d o) := by
        rw [answerRead_frame]
        exact ⟨rfl, rfl, rfl, rfl, fun _ h => h⟩
      exact .inr (.inr (.inl ⟨_, _, _, left.captureLoss _ _ _, departRead_split (s := s.setPortTag p tag) first o⟩))

theorem completeIf_waitEnds (s : State) (m n : SlotId) (c : Command) : WaitEnds s (s.completeIf m c) n := by
  unfold State.completeIf
  split
  · by_cases other : m = n
    · exact .inr (.inr (.inr (by rw [other])))
    · exact .inl (complete_slot_ne s other)
  · exact .inl rfl

theorem exec_waitEnds {c : Instr} {s t : State} {n : SlotId} (waiting : (s.slots.get n).state = .waiting)
    (h : exec c s = .next t) : WaitEnds s t n := by
  have written : ∀ w v, WaitEnds s (s.hostWrite w v) n := fun w v => (hostWrite_spares waiting w v).imp_right .inl
  cases c with
  | arrival q =>
    cases h
    left
    repeat' split
    all_goals simp [checkArrival_slots]
  | linkReset => cases h; exact .inl rfl
  | partReset cause =>
    right
    left
    cases cause <;> cases h <;> simp [State.partReset, State.reset]
  | answer p a =>
    cases h
    split
    · exact .inl rfl
    · exact .inl rfl
    · exact ownerTakes_waitEnds waiting p _ _ _
  | expiry p =>
    cases h
    split
    · split
      · exact ownerTakes_waitEnds waiting p _ _ _
      · exact .inl rfl
    · exact .inl rfl
    · exact .inl rfl
  | grant p =>
    cases h
    left
    split
    · rw [arbitrate_slots]
    · rfl
  | apSet => cases h; exact .inl (takeOf_spares waiting fun m => takeApSet_slot_ne s)
  | apRetire => cases h; exact .inl (takeOf_spares waiting fun m => takeApRetire_slot_ne s)
  | apInvalidate => cases h; exact .inl (takeOf_spares waiting fun m => takeApInvalidate_slot_ne s)
  | queryAperture =>
    cases h
    refine .inl (takeOf_spares waiting fun m other => ?_)
    unfold State.takeQueryAperture
    split <;> simp [other]
  | reqEnable => cases h; exact .inl (takeOf_takeRequester_spares waiting fun m r other => enable_slot_ne s other r)
  | reqDisable => cases h; exact .inl (takeOf_takeRequester_spares waiting fun m r other => disable_slot_ne s other r)
  | reqHalt => cases h; exact .inl (takeOf_takeRequester_spares waiting fun m r other => halt_slot_ne s other r)
  | reqResume => cases h; exact .inl (takeOf_takeRequester_spares waiting fun m r other => resume_slot_ne s other r)
  | faultClear =>
    cases h
    exact .inl (takeOf_takeRequester_spares waiting fun m r other => by simp [State.clearFault, other])
  | queryRequester =>
    cases h
    exact .inl (takeOf_takeRequester_spares waiting fun m r other => by simp [State.queryRequester, other])
  | tcPreload => cases h; exact .inl (takeOf_spares waiting fun m => takeTcPreload_slot_ne s)
  | tcUnpin =>
    cases h
    refine .inl (takeOf_spares waiting fun m other => ?_)
    unfold State.takeTcUnpin
    dsimp only
    repeat' split
    all_goals simp [other]
  | queryTc =>
    cases h
    refine .inl (takeOf_spares waiting fun m other => ?_)
    unfold State.takeQueryTc
    dsimp only
    split <;> simp [other]
  | flush =>
    cases h
    exact .inl (takeOf_spares waiting fun m other => by simp [State.takeFlush, waitOrComplete_slot_ne, other])
  | badOp => cases h; exact .inl (takeOf_spares waiting fun m other => by simp [other])
  | apRetireCompletion m => cases h; exact completeIf_waitEnds s m n _
  | apInvalidateCompletion m => cases h; exact completeIf_waitEnds s m n _
  | flushCompletion m => cases h; exact completeIf_waitEnds s m n _
  | reqHaltCompletion m => cases h; exact completeIf_waitEnds s m n _
  | tcPreloadCompletion m o =>
    cases h
    left
    split
    · exact endPreload_spares waiting m o
    · rfl
  | start m v => cases h; exact written _ _
  | ack m v => cases h; exact written _ _
  | slotWordWrite m k v => cases h; exact written _ _
  | linkEnable v => cases h; exact written _ _
  | softReset v => cases h; exact written _ _
  | intStatusWrite v => cases h; exact written _ _
  | intEnableWrite v => cases h; exact written _ _
  | responseLimitWrite v => cases h; exact written _ _
  | registerWrite off bytes => cases h; exact (hostAccess_spares waiting _ _).imp_right .inl
  | resetNRelease => cases h; exact .inl rfl
  | word7Action3 m v => cases h; exact written _ _

/-- A halt that a command ends has made its requester HALTED. -/
theorem WaitEnds.halted {s t : State} {n : SlotId} {r : RequesterId} (ends : WaitEnds s t n) (halts : s.halts n r)
    (halting : (s.requesters.get r).state = .halting) (done : (t.slots.get n).state = .done) :
    (t.requesters.get r).state = .halted := by
  have running : t.haltRuns n r := by
    obtain spared | free | ⟨u, lost, marks, same, rfl⟩ | rfl := ends
    · simp [spared, halts.1] at done
    · simp [free] at done
    · have : u.haltRuns n r := .inr ⟨halts.same_slot (by rw [same.slots]), same.halting r halting⟩
      exact this.tellAll lost marks allSlots
    · exact .complete halts halting
  exact running.resolve_right fun ⟨⟨waiting, _⟩, _⟩ => by simp [waiting] at done

/-- Settles O57: the slot's end makes its requester HALTED, and a HALTED requester has no work in the part (`HaltLaw`). -/
theorem haltThatIsDoneLeavesNoWorkOfItsRequester : Obligations.HaltThatIsDoneLeavesNoWorkOfItsRequester := by
  intro s s' n r commands parked haltLaw halts run done
  have halting : (s.requesters.get r).state = .halting := by
    obtain ⟨waiting, command, requester⟩ := halts
    obtain ⟨-, -, serves, -⟩ := haltLaw
    obtain ⟨q, requester', halting⟩ := serves n waiting command
    obtain rfl : q = r := Option.some.inj (requester'.symm.trans requester)
    exact halting
  have halted : (s'.requesters.get r).state = .halted := by
    obtain ⟨c, rest, -, ran⟩ | ⟨-, rfl⟩ := step_cases run
    · exact WaitEnds.halted (s := { s with pending := rest }) (exec_waitEnds halts.1 ran) halts halting done
    · have : (s.tick.slots.get n).state = .waiting := halts.1
      simp [this] at done
  obtain ⟨-, -, -, -, -, keeps⟩ := everyStepKeepsCommandsAndHaltsSound
  obtain ⟨-, -, noWork, -⟩ := keeps s s' ⟨commands, parked, haltLaw⟩ run
  exact ⟨halted, noWork r halted⟩

end Sys2Proof.Machine

/-! ## The completion of a walk -/

namespace Sys2Proof.Machine

/-! ### The turns of a walk's waiters (R90, R98) -/

section Turns

variable {p : PortTagId} {finish : Walk → Request → State → State} {s : State} {l₁ l₂ : List Walk} {w : Walk}
  (first : FirstOf (Walk.holdsTag p) s.walks l₁ w l₂)
include first

theorem removeWalk_split : s.removeWalk p = { s with walks := l₁ ++ l₂ } := by
  obtain ⟨split, before, holds⟩ := first
  rw [State.removeWalk, split, eraseP_split _ before holds]

theorem finishWaiters_done (waiters : w.waiters = []) (k : Nat) : State.finishWaiters p finish k s = s := by
  obtain ⟨split, before, holds⟩ := first
  cases k with
  | zero => rfl
  | succ k =>
    rw [State.finishWaiters, split, find_split _ before holds]
    dsimp only
    rw [waiters]

theorem finishWaiters_turn {q : Request} {qs : List Request} (waiters : w.waiters = q :: qs) (k : Nat) :
    State.finishWaiters p finish (k + 1) s =
      State.finishWaiters p finish k (finish w q { s with walks := l₁ ++ { w with waiters := qs } :: l₂ }) := by
  obtain ⟨split, before, holds⟩ := first
  rw [State.finishWaiters, split, find_split _ before holds]
  dsimp only
  rw [waiters]
  dsimp only
  rw [updateFirst_split _ _ before holds]

end Turns

theorem FirstOf.withWaiters {p : PortTagId} {ws l₁ l₂ : List Walk} {w : Walk} (first : FirstOf (Walk.holdsTag p) ws l₁ w l₂)
    (qs : List Request) :
    FirstOf (Walk.holdsTag p) (l₁ ++ { w with waiters := qs } :: l₂) l₁ { w with waiters := qs } l₂ := by
  obtain ⟨-, before, holds⟩ := first
  exact ⟨rfl, before, holds⟩

/-- The walk of a port tag stands where it stood when waiters of a requester have been released. -/
theorem FirstOf.withoutWaitersOf {p : PortTagId} {ws l₁ l₂ : List Walk} {w : Walk}
    (first : FirstOf (Walk.holdsTag p) ws l₁ w l₂) (r : RequesterId) :
    FirstOf (Walk.holdsTag p) (withoutWaitersOf r ws) (withoutWaitersOf r l₁)
      { w with waiters := w.waiters.filter fun x => decide (x.requester ≠ r) } (withoutWaitersOf r l₂) := by
  obtain ⟨rfl, before, holds⟩ := first
  refine ⟨by simp [Machine.withoutWaitersOf], fun y hy => ?_, holds⟩
  obtain ⟨v, hv, rfl⟩ := List.mem_map.1 hy
  exact before v hv

/-! ### A walk's page is installed and its preload ends (R74 to R76, R82) -/

theorem fullAnswer_of_length (c : Nat) {n : Nat} {data : List Byte} (full : data.length = n) : fullAnswer c n data = data := by
  simp [fullAnswer, full, List.take_of_length_le (Nat.le_of_eq full)]

theorem useFree_of_length (s : State) {n : Nat} {data : List Byte} (full : data.length = n) : s.useFree n data = s := by
  simp [State.useFree, full]

/-- How the preload that a completed walk carries ends (R82). -/
def preloadEndOf (w : Walk) (pinned : Bool) : PreloadEnd :=
  match w.preload with
  | some (_, true) => if pinned then .installed else .pinLimit
  | _ => .installed

theorem completeWalk_of_valid {s : State} {data : List Byte} (full : data.length = 8) (valid : (pageEntryOf data).valid = true)
    (p : PortTagId) (w : Walk) :
    s.completeWalk p w (.ok data) =
      (State.finishWaiters p (State.resumeWaiter (pageEntryOf data)) w.waiters.length
        ((s.install w (pageEntryOf data)).endPreloadOf w (preloadEndOf w (s.pinGranted w)))).removeWalk p := by
  unfold State.completeWalk
  simp only [Config.pageEntryBytes, fullAnswer_of_length _ full, useFree_of_length _ full, if_pos valid]
  rcases carried : w.preload with _ | ⟨n, _ | _⟩
  · simp [preloadEndOf, carried]
  · simp [preloadEndOf, carried]
  · cases granted : s.pinGranted w <;> simp [preloadEndOf, carried]

theorem endPreloadOf_withPreloadEnd {s : State} {w : Walk}
    (running : ∀ n pin, w.preload = some (n, pin) → (s.slots.get n).state = .running) (e : TcEntry) :
    s.endPreloadOf w (preloadEndOf w e.pinned) = s.withPreloadEnd w e := by
  unfold State.endPreloadOf State.withPreloadEnd preloadEndOf
  cases carried : w.preload with
  | none => rfl
  | some np =>
    obtain ⟨n, pin⟩ := np
    dsimp only
    rw [endPreload_of_running (running n pin carried)]
    cases pin <;> cases e.pinned <;> rfl

theorem endPreloadOf_withPreloadFailed {s : State} {w : Walk} {o : PreloadEnd} {code : Status} {qual : Qualifier}
    (running : ∀ n pin, w.preload = some (n, pin) → (s.slots.get n).state = .running)
    (fails : ∀ n, (s.slots.get n).state = .running → s.endPreload n o = s.withEnd n (s.slots.get n).words .failed code qual) :
    s.endPreloadOf w o = s.withPreloadFailed w code qual := by
  unfold State.endPreloadOf State.withPreloadFailed
  cases carried : w.preload with
  | none => rfl
  | some np =>
    obtain ⟨n, pin⟩ := np
    exact fails n (running n pin carried)

theorem pinGranted_iff (s : State) (w : Walk) :
    s.pinGranted w = true ↔ (∃ n, w.preload = some (n, true)) ∧ s.tc.countP (fun x => x.pinned) < 24 := by
  unfold State.pinGranted
  split
  · next n carried => exact ⟨fun room => ⟨⟨n, carried⟩, of_decide_eq_true room⟩, fun carries => decide_eq_true carries.2⟩
  · next without => simpa using fun n carried => absurd carried (without n)

/-- The entry that a completed walk installs. -/
def State.installed (s : State) (w : Walk) (pe : PageEntry) : TcEntry where
  aperture := w.aperture
  generation := w.generation
  page := w.page
  frame := pe.frame
  readable := pe.readable
  writable := pe.writable
  pinned := s.pinGranted w

theorem installs_install (s : State) (w : Walk) (pe : PageEntry) :
    Installs s w pe (s.installed w pe) (s.installed w pe :: makeRoom s.tc) := by
  refine ⟨rfl, rfl, rfl, rfl, rfl, rfl, pinGranted_iff s w, fun room => ?_, fun full m₁ v m₂ split unpinned pinned => ?_⟩
  · rw [makeRoom, if_neg (Nat.not_le.2 room)]
  · rw [makeRoom, if_pos full, split, dropLast_split _ (fun y hy => by simp [pinned y hy]) (by simp [unpinned])]

/-! ### The waiters take their turns (R97) -/

/-- The lowest bits set, however many are asked for. -/
theorem getLsbD_lowBits (n : Nat) {i : Nat} (inWord : i < 64) : (1#64 <<< n - 1#64).getLsbD i = decide (i < n) := by
  by_cases few : n ≤ 64
  · rw [BitVec.getLsbD, toNat_lowBits few, Nat.testBit_two_pow_sub_one]
  · have all : 1#64 <<< n - 1#64 = BitVec.allOnes 64 := by
      rw [BitVec.shiftLeft_eq_zero (by omega)]
      rfl
    rw [all, BitVec.getLsbD_allOnes]
    simp
    omega

/-- A request that the part keeps has only enables of its own range (R47). -/
theorem enables_of_masked {q : Request} {en : BitVec 64} {data : List Byte} (masked : maskEnables q = q)
    (write : q.payload = .write en data) (k : Fin 64) :
    en.getLsbD k.val =
      (en.getLsbD k.val && decide (q.addr.toNat % 64 ≤ k.val) && decide (k.val < q.addr.toNat % 64 + q.length.toNat)) := by
  have same : en &&& rangeMask q = en := by
    have := maskEnables_of_write write
    rw [masked, write] at this
    exact (Payload.write.inj this).1.symm
  have bit : (rangeMask q).getLsbD k.val =
      (decide (q.addr.toNat % 64 ≤ k.val) && decide (k.val < q.addr.toNat % 64 + q.length.toNat)) := by
    rw [rangeMask, BitVec.getLsbD_shiftLeft, getLsbD_lowBits _ (by omega), Bool.eq_iff_iff]
    simp only [Bool.and_eq_true, Bool.not_eq_true', decide_eq_true_eq, decide_eq_false_iff_not]
    omega
  rw [Bool.and_assoc, ← bit, ← BitVec.getLsbD_and, same]

theorem isPostedWrite_of_masked {s : State} {q : Request} {en : BitVec 64} {data : List Byte} (masked : maskEnables q = q)
    (write : q.payload = .write en data) (a : ApIndex) (m : MemAddr) : IsPostedWrite (newWrite s.nextSeq a m q en data) s q a m :=
  ⟨en, data, write, rfl, rfl, rfl, rfl, rfl, rfl, rfl, emptyMarks_get, rfl, enables_of_masked masked write⟩

section Resume

variable {s : State} {pe : PageEntry} {w : Walk} {g : Grant} {q : Request}

theorem resumeWaiter_permitted (live : (s.apertures.get w.aperture).life = .live g)
    (permits : pagePermits pe.readable pe.writable (direction q) = true) :
    State.resumeWaiter pe w q s = s.enter w.aperture g.ordering (frameAddr pe.frame q.addr) q := by
  rw [State.resumeWaiter, if_pos permits, grantOf_of_live live]
  rfl

theorem resumeWaiter_refused (refuses : pagePermits pe.readable pe.writable (direction q) = false) :
    State.resumeWaiter pe w q s =
      (s.respond q.requester q.tag (.abort .permission)).capture q.requester (.permission (direction q) q.addr w.aperture) := by
  rw [State.resumeWaiter, if_neg (by simp [refuses])]

theorem resumedTurn_resumeWaiter (live : (s.apertures.get w.aperture).life = .live g) (masked : maskEnables q = q) :
    ResumedTurn pe w.aperture g q s (State.resumeWaiter pe w q s) := by
  refine ⟨frameAddr pe.frame q.addr, frameAddr_toNat _ _, fun refuses => ?_, fun permits => ?_⟩
  · rw [resumeWaiter_refused refuses]
    exact captured_capture _ _ _
  · rw [resumeWaiter_permitted live permits]
    refine ⟨fun write room => ?_, fun write full => ?_, fun read room => ?_, fun read full => ?_⟩
    · obtain ⟨en, data, payload⟩ := direction_eq_write.1 write
      exact ⟨_, isPostedWrite_of_masked masked payload _ _, enter_write _ _ _ payload room⟩
    · obtain ⟨en, data, payload⟩ := direction_eq_write.1 write
      exact enter_write_full _ _ _ payload full
    · exact ⟨_, isTrackedRead_newRead s q _ _ _, enter_read _ _ _ (direction_eq_read.1 read) room⟩
    · exact enter_read_full _ _ _ (direction_eq_read.1 read) full

/-- A turn leaves the walks as they are, or takes the waiters of a requester that its capture stops. -/
theorem resumeWaiter_walks (pe : PageEntry) (w : Walk) (q : Request) (s : State) :
    (State.resumeWaiter pe w q s).walks = s.walks ∨
      (State.resumeWaiter pe w q s).walks = withoutWaitersOf q.requester s.walks := by
  unfold State.resumeWaiter
  split
  · rw [enter_frame]
    exact .inl rfl
  · exact (capture_walks _ _ _).imp_right And.right

/-- After a turn the walk stands where it stood, with waiters that it had before. -/
theorem resumeWaiter_first {p : PortTagId} {l₁ l₂ : List Walk} {v : Walk} (first : FirstOf (Walk.holdsTag p) s.walks l₁ v l₂)
    (pe : PageEntry) (q : Request) :
    ∃ l₁' qs l₂', FirstOf (Walk.holdsTag p) (State.resumeWaiter pe w q s).walks l₁' { v with waiters := qs } l₂' ∧
      qs.Sublist v.waiters := by
  obtain same | released := resumeWaiter_walks pe w q s
  · rw [same]
    exact ⟨l₁, v.waiters, l₂, first, .refl _⟩
  · rw [released]
    exact ⟨_, _, _, first.withoutWaitersOf q.requester, List.filter_sublist⟩

end Resume

theorem resumes_finishWaiters {p : PortTagId} {pe : PageEntry} {g : Grant} {l₁ l₂ : List Walk} {w : Walk} {s : State}
    (first : FirstOf (Walk.holdsTag p) s.walks l₁ w l₂) (live : (s.apertures.get w.aperture).life = .live g)
    (masked : ∀ q ∈ w.waiters, maskEnables q = q) {k : Nat} (enough : w.waiters.length ≤ k) :
    Resumes p pe w.aperture g s ((State.finishWaiters p (State.resumeWaiter pe) k s).removeWalk p) := by
  induction k generalizing s l₁ l₂ w with
  | zero =>
    have waiters : w.waiters = [] := List.length_eq_zero_iff.1 (Nat.le_zero.1 enough)
    rw [finishWaiters_done first waiters, removeWalk_split first]
    exact .ended first waiters
  | succ k ih =>
    cases waiters : w.waiters with
    | nil =>
      rw [finishWaiters_done first waiters, removeWalk_split first]
      exact .ended first waiters
    | cons q qs =>
      rw [waiters] at masked enough
      rw [finishWaiters_turn first waiters]
      obtain ⟨l₁', qs', l₂', next, left⟩ := resumeWaiter_first (s := { s with walks := l₁ ++ { w with waiters := qs } :: l₂ })
        (first.withWaiters qs) pe q
      refine .turn first waiters (resumedTurn_resumeWaiter live (masked q (by simp)))
        (ih (w := { w with waiters := qs' }) next ?_ (fun x hx => masked x (by simp [left.subset hx]))
          (left.length_le.trans (Nat.le_of_succ_le_succ enough)))
      rw [resumeWaiter_frame]
      exact live

theorem departWalk_of_live {p : PortTagId} {s : State} {l₁ l₂ : List Walk} {w : Walk}
    (first : FirstOf (Walk.holdsTag p) s.walks l₁ w l₂) (alive : w.orphaned = false) (o : PortOutcome) :
    s.departWalk p o = s.completeWalk p w o := by
  obtain ⟨split, before, holds⟩ := first
  rw [State.departWalk, split, find_split _ before holds]
  dsimp only
  rw [if_neg (by simp [alive])]

theorem endPreloadOf_walks (s : State) (w : Walk) (o : PreloadEnd) : (s.endPreloadOf w o).walks = s.walks := by
  rw [endPreloadOf_frame]

theorem endPreloadOf_apertures (s : State) (w : Walk) (o : PreloadEnd) : (s.endPreloadOf w o).apertures = s.apertures := by
  rw [endPreloadOf_frame]

/-- Settles O38: the page is installed, the preload ends, and each waiter takes its turn until none is left. -/
theorem resumedWaiterIsTranslatedWithTheAnswer : Obligations.ResumedWaiterIsTranslatedWithTheAnswer := by
  intro s p time l₁ w l₂ data g busy first alive masked running live full valid
  have departs := (departWalk_of_live (s := s.withPortTag p .free) first alive (.ok data)).trans
    (completeWalk_of_valid full valid p w)
  have preload := endPreloadOf_withPreloadEnd (s := (s.withPortTag p .free).install w (pageEntryOf data)) running
    (s.installed w (pageEntryOf data))
  have resumes : Resumes p (pageEntryOf data) w.aperture g _ _ :=
    resumes_finishWaiters (s := ((s.withPortTag p .free).install w (pageEntryOf data)).endPreloadOf w
        (preloadEndOf w (s.installed w (pageEntryOf data)).pinned)) (l₁ := l₁) (l₂ := l₂)
      (by rw [endPreloadOf_walks]; exact first) (by rw [endPreloadOf_apertures]; exact live) masked (Nat.le_refl _)
  rw [preload] at resumes
  refine ⟨_, _, _, installs_install s w (pageEntryOf data),
    (exec_answer_of_busy busy _).trans (congrArg Host.Outcome.next (departs.trans ?_)), resumes⟩
  exact congrArg (fun u => (State.finishWaiters p (State.resumeWaiter (pageEntryOf data)) w.waiters.length u).removeWalk p) preload

end Sys2Proof.Machine

/-! ## The waiters of a failed walk -/

namespace Sys2Proof.Machine

/-! ### Answers in a row -/

theorem answered_respond (s : State) (q : Request) (x : LinkReply) : Answered s (s.respond q.requester q.tag x) [q] x :=
  ⟨rfl, fun r g => by rw [respond_linkTag]; simp⟩

/-- The tags freed at two times are all free at the end. -/
theorem TagsFreed.trans {s u t : State} {ps qs : List Request} (h : TagsFreed s u ps) (h' : TagsFreed u t qs) :
    TagsFreed s t (ps ++ qs) := fun r g => by
  rw [h' r g, h r g, List.any_append]
  cases ps.any fun p => decide (p.requester = r) && decide (p.tag = g) <;> simp

theorem Answered.trans {s u t : State} {ps qs : List Request} {x : LinkReply} (h : Answered s u ps x) (h' : Answered u t qs x) :
    Answered s t (ps ++ qs) x :=
  ⟨by rw [h'.1, h.1, List.append_assoc]; simp [repliesTo], h.2.trans h'.2⟩

theorem Answered.of_same {s s' t : State} {ps : List Request} {x : LinkReply} (h : Answered s' t ps x)
    (linkOut : s'.linkOut = s.linkOut) (linkTags : s'.linkTags = s.linkTags) : Answered s t ps x :=
  ⟨by rw [h.1, linkOut], fun r g => by rw [h.2 r g, State.linkTag, State.linkTag, linkTags]⟩

/-! ### Faults in a row (R34) -/

/-- A record after the faults of some requests, in order. -/
def Requester.withFaults (x : Requester) (fault : Request → FaultRecord) (qs : List Request) : Requester :=
  qs.foldl (fun x q => recordFault x (fault q)) x

theorem recordFault_of_counted {x : Requester} (counted : x.counted) (f : FaultRecord) :
    recordFault x f = { x with firstFault := some (x.firstFault.getD f), faultCount := min (x.faultCount + 1) 255 } := by
  obtain ⟨most, zero⟩ := counted
  unfold recordFault
  split
  · next clear => simp [clear, zero.2 clear]
  · next f' held =>
    rw [held]
    cases x
    simp_all [Config.faultCountMax]

theorem withFaults_of_counted {x : Requester} (counted : x.counted) (fault : Request → FaultRecord) (q : Request)
    (ps : List Request) :
    x.withFaults fault (q :: ps) = { x with
      firstFault := some (x.firstFault.getD (fault q))
      faultCount := min (x.faultCount + (ps.length + 1)) 255 } := by
  induction ps generalizing x q with
  | nil => exact recordFault_of_counted counted _
  | cons p ps ih =>
    have step : x.withFaults fault (q :: p :: ps) = (recordFault x (fault q)).withFaults fault (p :: ps) := rfl
    rw [step, ih (recordFault_counted counted _), recordFault_of_counted counted]
    simp
    omega

/-! ### The turns -/

/-- The waiters of a walk, and of what is left of it, are answered ABORT and their faults captured. -/
def AbortsWaiters (finish : Walk → Request → State → State) (w : Walk) (kind : AbortKind) (fault : Request → FaultRecord) : Prop :=
  ∀ (v : Walk) (x : Request) (u : State), v.aperture = w.aperture → v.entryAddr = w.entryAddr →
    finish v x u = (u.respond x.requester x.tag (.abort kind)).capture x.requester (fault x)

section Aborts

variable {p : PortTagId} {finish : Walk → Request → State → State} {kind : AbortKind} {fault : Request → FaultRecord}

/-- No capture stops the requester: each waiter is answered and its fault counted. -/
theorem finishWaiters_counting {s t : State} {l₁ l₂ : List Walk} {w : Walk} {r : RequesterId} {qs : List Request}
    (first : FirstOf (Walk.holdsTag p) s.walks l₁ w l₂) (waiters : w.waiters = qs) (aborts : AbortsWaiters finish w kind fault)
    (own : ∀ x ∈ qs, x.requester = r) (counts : ¬(s.requesters.get r).stops)
    (ends : (State.finishWaiters p finish qs.length s).removeWalk p = t) :
    Answered s t qs (.abort kind) ∧
      t = { s.withRequester r ((s.requesters.get r).withFaults fault qs) with
        walks := l₁ ++ l₂
        linkTags := t.linkTags
        linkOut := t.linkOut } := by
  induction qs generalizing s w with
  | nil =>
    rw [finishWaiters_done first waiters, removeWalk_split first] at ends
    subst ends
    refine ⟨⟨by simp [repliesTo], fun r g => rfl⟩, ?_⟩
    simp [State.withRequester, Requester.withFaults]
  | cons q qs ih =>
    have ownFirst : q.requester = r := own q (by simp)
    rw [List.length_cons, finishWaiters_turn first waiters, aborts w q _ rfl rfl, ownFirst, capture_counting _ _ _ (by exact counts)] at ends
    have stays : ¬(recordFault (s.requesters.get r) (fault q)).stops := by simpa [Requester.stops] using counts
    obtain ⟨answered, e⟩ := ih (w := { w with waiters := qs }) (first.withWaiters qs) rfl aborts
      (fun x hx => own x (by simp [hx])) (by simpa using stays) ends
    refine ⟨?_, ?_⟩
    · have sent : Answered s (s.respond r q.tag (.abort kind)) [q] (.abort kind) := ownFirst ▸ answered_respond s q _
      exact sent.trans (answered.of_same rfl rfl)
    · rw [e]
      simp [State.withRequester, State.setRequester, Requester.withFaults]

/-- The first capture stops the requester, and its release takes the waiters behind the first. -/
theorem finishWaiters_stopping {s t : State} {l₁ l₂ : List Walk} {w : Walk} {q : Request} {ps : List Request}
    (first : FirstOf (Walk.holdsTag p) s.walks l₁ w l₂) (waiters : w.waiters = q :: ps)
    (aborts : AbortsWaiters finish w kind fault) (own : ∀ x ∈ ps, x.requester = q.requester)
    (stops : (s.requesters.get q.requester).stops)
    (ends : (State.finishWaiters p finish (q :: ps).length s).removeWalk p = t) :
    ∃ rest, rest = (l₁ ++ { w with waiters := ps } :: l₂).flatMap
        (fun v => v.waiters.filter fun x => decide (x.requester = q.requester)) ∧
      t.linkOut = s.linkOut ++ repliesTo (.abort kind) [q] ++ repliesTo (.abort .stopped) rest ∧ TagsFreed s t (q :: rest) ∧
      t = { s.withRequester q.requester ((s.requesters.get q.requester).withFault (fault q) .stopped) with
        walks := withoutWaitersOf q.requester (l₁ ++ l₂)
        linkTags := t.linkTags
        linkOut := t.linkOut } := by
  rw [List.length_cons, finishWaiters_turn first waiters, aborts w q _ rfl rfl] at ends
  obtain ⟨stopped, -⟩ := captured_capture
    ({ s with walks := l₁ ++ { w with waiters := ps } :: l₂ }.respond q.requester q.tag (.abort kind)) q.requester (fault q)
  obtain ⟨released, e⟩ := stopped stops
  have next : FirstOf (Walk.holdsTag p)
      (({ s with walks := l₁ ++ { w with waiters := ps } :: l₂ }.respond q.requester q.tag (.abort kind)).capture q.requester
        (fault q)).walks
      (withoutWaitersOf q.requester l₁) { w with waiters := ps.filter fun x => decide (x.requester ≠ q.requester) }
      (withoutWaitersOf q.requester l₂) := by
    rw [e]
    exact (first.withWaiters ps).withoutWaitersOf q.requester
  have noneLeft : (ps.filter fun x => decide (x.requester ≠ q.requester)) = [] := by
    simpa using own
  rw [finishWaiters_done next noneLeft, removeWalk_split next] at ends
  subst ends
  refine ⟨_, rfl, released.1, (answered_respond s q (.abort kind)).2.trans released.2, ?_⟩
  rw [e]
  simp [State.withRequester, withoutWaitersOf]

end Aborts

theorem noPageWaiter_aborts (w : Walk) :
    AbortsWaiters State.noPageWaiter w .noPage fun x => .noPage (direction x) x.addr w.aperture w.entryAddr := by
  intro v x u aperture entryAddr
  rw [State.noPageWaiter, aperture, entryAddr]

theorem walkErrorWaiter_aborts (qual : Qualifier) (w : Walk) :
    AbortsWaiters (State.walkErrorWaiter qual) w .walkError
      fun x => .walkError qual (direction x) x.addr w.aperture w.entryAddr := by
  intro v x u aperture entryAddr
  rw [State.walkErrorWaiter, aperture, entryAddr]

theorem completeWalk_of_invalid {s : State} {data : List Byte} (full : data.length = 8) (invalid : (pageEntryOf data).valid = false)
    (p : PortTagId) (w : Walk) :
    s.completeWalk p w (.ok data) =
      (State.finishWaiters p State.noPageWaiter w.waiters.length (s.endPreloadOf w .noPage)).removeWalk p := by
  unfold State.completeWalk
  simp only [Config.pageEntryBytes, fullAnswer_of_length _ full, useFree_of_length _ full, invalid]
  rfl

/-- What ends a walk that gives no translation: its preload fails, and its waiters are aborted. -/
theorem exec_of_failedWalk {s : State} {p : PortTagId} {time : Nat} {l₁ l₂ : List Walk} {w : Walk} {c : Instr} {kind : AbortKind}
    {fault : Request → FaultRecord} {tag : PortTag} {code : Status} {qual : Qualifier}
    (busy : s.portTags.get p = .busy .walk time) (first : FirstOf (Walk.holdsTag p) s.walks l₁ w l₂) (alive : w.orphaned = false)
    (running : ∀ n pin, w.preload = some (n, pin) → (s.slots.get n).state = .running)
    (fails : (∃ data, c = .answer p (.ok data) ∧ data.length = 8 ∧ (pageEntryOf data).valid = false ∧ kind = .noPage ∧
        fault = (fun x => .noPage (direction x) x.addr w.aperture w.entryAddr) ∧ tag = .free ∧ code = .noPage ∧ qual = .error) ∨
      (c = .answer p .error ∧ kind = .walkError ∧
        fault = (fun x => .walkError .error (direction x) x.addr w.aperture w.entryAddr) ∧ tag = .free ∧
        code = .walkError ∧ qual = .error) ∨
      (c = .expiry p ∧ s.overdue time ∧ kind = .walkError ∧
        fault = (fun x => .walkError .timeout (direction x) x.addr w.aperture w.entryAddr) ∧ tag = .quarantined ∧
        code = .walkError ∧ qual = .timeout)) :
    ∃ finish, AbortsWaiters finish w kind fault ∧
      exec c s = .next ((State.finishWaiters p finish w.waiters.length
        ((s.withPortTag p tag).withPreloadFailed w code qual)).removeWalk p) := by
  have departs := departWalk_of_live (s := s.withPortTag p tag) first alive
  have preload : ∀ o, (∀ n, (s.slots.get n).state = .running → (s.withPortTag p tag).endPreload n o =
      (s.withPortTag p tag).withEnd n (s.slots.get n).words .failed code qual) →
      (s.withPortTag p tag).endPreloadOf w o = (s.withPortTag p tag).withPreloadFailed w code qual :=
    fun o fails => endPreloadOf_withPreloadFailed (s := s.withPortTag p tag) running fails
  obtain ⟨data, rfl, full, invalid, rfl, rfl, rfl, rfl, rfl⟩ | ⟨rfl, rfl, rfl, rfl, rfl, rfl⟩ |
    ⟨rfl, overdue, rfl, rfl, rfl, rfl, rfl⟩ := fails
  · refine ⟨_, noPageWaiter_aborts w, ?_⟩
    rw [← preload .noPage fun n h => endPreload_of_running (s := s.withPortTag p .free) h .noPage]
    exact (exec_answer_of_busy busy _).trans (congrArg Host.Outcome.next
      ((departs (.ok data)).trans (completeWalk_of_invalid full invalid p w)))
  · refine ⟨_, walkErrorWaiter_aborts .error w, ?_⟩
    rw [← preload (.walkError .error) fun n h => endPreload_of_running (s := s.withPortTag p .free) h (.walkError .error)]
    exact (exec_answer_of_busy busy _).trans (congrArg Host.Outcome.next (departs .error))
  · refine ⟨_, walkErrorWaiter_aborts .timeout w, ?_⟩
    rw [← preload (.walkError .timeout) fun n h =>
      endPreload_of_running (s := s.withPortTag p .quarantined) h (.walkError .timeout)]
    exact (exec_expiry_of_overdue busy overdue).trans (congrArg Host.Outcome.next (departs .timeout))

theorem withPreloadFailed_frame (s : State) (w : Walk) (code : Status) (qual : Qualifier) :
    s.withPreloadFailed w code qual = { s with
      slots := (s.withPreloadFailed w code qual).slots
      submission := (s.withPreloadFailed w code qual).submission } := by
  unfold State.withPreloadFailed
  split <;> rfl

/-- Settles O39: each waiter's turn is an answer and a capture, and the capture that stops the requester takes the waiters behind. -/
theorem waitersOfAFailedWalkAreAbortedInOrder : Obligations.WaitersOfAFailedWalkAreAbortedInOrder := by
  intro s p time l₁ w l₂ q ps c kind fault tag code qual busy first alive waiters own running law fails
  obtain ⟨finish, aborts, ran⟩ := exec_of_failedWalk busy first alive running fails
  have frame := withPreloadFailed_frame (s.withPortTag p tag) w code qual
  have requesters : ((s.withPortTag p tag).withPreloadFailed w code qual).requesters = s.requesters := by rw [frame]; rfl
  have first' : FirstOf (Walk.holdsTag p) ((s.withPortTag p tag).withPreloadFailed w code qual).walks l₁ w l₂ := by
    rw [frame]; exact first
  have linkOut : ((s.withPortTag p tag).withPreloadFailed w code qual).linkOut = s.linkOut := by rw [frame]; rfl
  have linkTags : ((s.withPortTag p tag).withPreloadFailed w code qual).linkTags = s.linkTags := by rw [frame]; rfl
  rw [waiters] at ran
  refine ⟨fun counts => ?_, fun stops => ?_⟩
  · obtain ⟨answered, e⟩ := finishWaiters_counting first' waiters aborts (r := q.requester) (by simpa using own)
      (by rwa [requesters]) rfl
    rw [requesters, withFaults_of_counted (law q.requester)] at e
    exact ⟨_, ran, answered.of_same linkOut linkTags, e⟩
  · obtain ⟨rest, split, sent, freed, e⟩ := finishWaiters_stopping first' waiters aborts own (by rwa [requesters]) rfl
    rw [requesters] at e
    rw [linkOut] at sent
    exact ⟨_, rest, ran, split, sent, fun r g => by rw [freed r g, State.linkTag, State.linkTag, linkTags], e⟩

end Sys2Proof.Machine

/-! ## RESET_N held low -/

namespace Sys2Proof.Machine

/-! ### Arrivals and the window while the pin is low (R66, R176) -/

/-- Settles O6: the pin stands first in every one of these meanings. -/
theorem lowResetPinIgnoresLinkAndWindowUntilRelease : Obligations.LowResetPinIgnoresLinkAndWindowUntilRelease := by
  intro s
  refine ⟨fun low => ?_, rfl⟩
  have ignored : ∀ (w : WindowWord) (v : Word), s.hostWrite w v = s := fun _ _ => if_pos low
  exact ⟨fun _ => congrArg Host.Outcome.next (if_pos low), fun _ => if_pos low,
    fun _ _ => ⟨congrArg _ (ignored _ _), congrArg _ (ignored _ _), congrArg _ (ignored _ _), fun _ => congrArg _ (ignored _ _)⟩,
    fun _ => ⟨congrArg _ (ignored _ _), congrArg _ (ignored _ _), congrArg _ (ignored _ _), congrArg _ (ignored _ _),
      congrArg _ (ignored _ _)⟩,
    fun _ _ => congrArg Host.Outcome.next (if_pos low)⟩

/-! ### The pin through the shared operations -/

@[simp] theorem release_resetLow (s : State) (r : RequesterId) (x : LinkReply) : (s.release r x).resetLow = s.resetLow := by
  rw [release_frame]

@[simp] theorem orphan_resetLow (s : State) (p : Walk → Bool) (x : LinkReply) : (s.orphan p x).resetLow = s.resetLow := by
  rw [orphan_frame]

@[simp] theorem capture_resetLow (s : State) (r : RequesterId) (f : FaultRecord) : (s.capture r f).resetLow = s.resetLow := by
  rw [capture_frame]

@[simp] theorem enter_resetLow (s : State) (a : ApIndex) (ord : ReadOrder) (m : MemAddr) (q : Request) :
    (s.enter a ord m q).resetLow = s.resetLow := by rw [enter_frame]

@[simp] theorem miss_resetLow (s : State) (a : ApIndex) (gen : Generation) (page : Nat) (m : MemAddr) (q : Request) :
    (s.miss a gen page m q).resetLow = s.resetLow := by rw [miss_frame]

@[simp] theorem mark_resetLow (s : State) (n : SlotId) (pw : PostedWrite → Bool) (pr : ReadEntry → Bool) :
    (s.mark n pw pr).resetLow = s.resetLow := rfl

@[simp] theorem dropEntries_resetLow (s : State) (p : TcEntry → Bool) : (s.dropEntries p).resetLow = s.resetLow := rfl

@[simp] theorem complete_resetLow (s : State) (n : SlotId) : (s.complete n).resetLow = s.resetLow := by rw [complete_frame]

@[simp] theorem waitOrComplete_resetLow (s : State) (n : SlotId) : (s.waitOrComplete n).resetLow = s.resetLow := by
  unfold State.waitOrComplete
  split <;> simp

@[simp] theorem endPreload_resetLow (s : State) (n : SlotId) (o : PreloadEnd) : (s.endPreload n o).resetLow = s.resetLow := by
  rw [endPreload_frame]

theorem endPreloadOf_resetLow (s : State) (w : Walk) (o : PreloadEnd) : (s.endPreloadOf w o).resetLow = s.resetLow := by
  rw [endPreloadOf_frame]

theorem translate_resetLow (s : State) (a : ApIndex) (g : Grant) (q : Request) : (s.translate a g q).resetLow = s.resetLow := by
  unfold State.translate State.hit
  dsimp only
  repeat' split
  all_goals simp

theorem checkArrival_resetLow (s : State) (q : Request) : (s.checkArrival q).resetLow = s.resetLow := by
  unfold State.checkArrival State.checkAdmission
  repeat' split
  all_goals simp [translate_resetLow]

/-! ### The pin through the port -/

theorem finishWaiters_resetLow {p : PortTagId} {finish : Walk → Request → State → State}
    (keeps : ∀ w q s, (finish w q s).resetLow = s.resetLow) (k : Nat) (s : State) :
    (State.finishWaiters p finish k s).resetLow = s.resetLow :=
  finishWaiters_keeps (fun u => u.resetLow = s.resetLow) (fun _ _ _ _ kept _ _ => (keeps ..).trans kept) k s rfl

theorem completeWalk_resetLow (s : State) (p : PortTagId) (w : Walk) (o : PortOutcome) :
    (s.completeWalk p w o).resetLow = s.resetLow := by
  have resumed : ∀ pe w q s, (State.resumeWaiter pe w q s).resetLow = s.resetLow := fun _ _ _ _ => by rw [resumeWaiter_frame]
  have noPage : ∀ w q s, (State.noPageWaiter w q s).resetLow = s.resetLow := fun _ _ _ => by rw [noPageWaiter_frame]
  have failed : ∀ qual w q s, (State.walkErrorWaiter qual w q s).resetLow = s.resetLow := fun _ _ _ _ => by
    rw [walkErrorWaiter_frame]
  unfold State.completeWalk
  split
  · dsimp only
    split
    · exact (finishWaiters_resetLow (resumed _) ..).trans (endPreloadOf_resetLow ..)
    · exact (finishWaiters_resetLow noPage ..).trans (endPreloadOf_resetLow ..)
  · exact (finishWaiters_resetLow (failed _) ..).trans (endPreloadOf_resetLow ..)
  · exact (finishWaiters_resetLow (failed _) ..).trans (endPreloadOf_resetLow ..)

theorem ownerTakes_resetLow (s : State) (p : PortTagId) (k : PortKind) (o : PortOutcome) :
    (s.ownerTakes p k o).resetLow = s.resetLow := by
  cases k with
  | walk =>
    change (s.departWalk p o).resetLow = _
    unfold State.departWalk
    split
    · rfl
    · split
      · rfl
      · exact completeWalk_resetLow ..
  | write => change (s.departWrite p o).resetLow = _; rw [departWrite_frame]
  | read => change (s.departRead p o).resetLow = _; rw [departRead_frame]

theorem arbitrate_resetLow (s : State) (p : PortTagId) : (s.arbitrate p).resetLow = s.resetLow := by
  obtain ⟨w, -, h⟩ | ⟨-, e, -, ⟨h, -⟩ | ⟨h, -⟩⟩ | ⟨-, d, -, ⟨h, -⟩ | ⟨h, -⟩⟩ | h := arbitrate_cases s p <;> rw [h] <;> rfl

/-! ### The pin through the takes and the window -/

section Takes

variable {s : State}

theorem takeOf_resetLow {c : Option Command} {body : SlotId → State} (kept : ∀ n, (body n).resetLow = s.resetLow) :
    (s.takeOf c body).resetLow = s.resetLow := by
  obtain ⟨n, -, -, h⟩ | h := takeOf_cases s c body <;> rw [h]
  exact kept n

theorem takeRequester_resetLow {c : Option Command} {body : SlotId → RequesterId → State}
    (kept : ∀ n r, (body n r).resetLow = s.resetLow) :
    (s.takeOf c fun n => s.takeRequester n (body n)).resetLow = s.resetLow :=
  takeOf_resetLow fun n => by
    unfold State.takeRequester
    split
    · rfl
    · exact kept n _

variable (n : SlotId)

theorem takeApSet_resetLow : (s.takeApSet n).resetLow = s.resetLow := by
  unfold State.takeApSet State.grantAperture
  dsimp only
  repeat' split
  all_goals rfl

theorem takeApRetire_resetLow : (s.takeApRetire n).resetLow = s.resetLow := by
  unfold State.takeApRetire State.retire
  dsimp only
  repeat' split
  all_goals simp

theorem takeApInvalidate_resetLow : (s.takeApInvalidate n).resetLow = s.resetLow := by
  unfold State.takeApInvalidate State.invalidate
  dsimp only
  repeat' split
  all_goals simp

theorem takeTcPreload_resetLow : (s.takeTcPreload n).resetLow = s.resetLow := by
  unfold State.takeTcPreload State.preloadPresent State.preloadWalk
  dsimp only
  repeat' split
  all_goals rfl

variable (r : RequesterId)

theorem enable_resetLow : (s.enable n r).resetLow = s.resetLow := by
  unfold State.enable
  dsimp only
  split <;> rfl

theorem disable_resetLow : (s.disable n r).resetLow = s.resetLow := by
  unfold State.disable
  dsimp only
  split <;> simp

theorem halt_resetLow : (s.halt n r).resetLow = s.resetLow := by
  unfold State.halt State.drainRequester
  dsimp only
  split <;> simp

theorem resume_resetLow : (s.resume n r).resetLow = s.resetLow := by
  unfold State.resume
  dsimp only
  split <;> rfl

theorem completeIf_resetLow (c : Command) : (s.completeIf n c).resetLow = s.resetLow := by
  unfold State.completeIf
  split <;> simp

end Takes

theorem hostWriteAt_resetLow (s : State) (w : WindowWord) (v : Word) : (s.hostWriteAt w v).resetLow = s.resetLow := by
  obtain h | h := hostWriteAt_cases s w v <;> rw [h]
  rfl

theorem hostWrite_resetLow (s : State) (w : WindowWord) (v : Word) : (s.hostWrite w v).resetLow = s.resetLow := by
  unfold State.hostWrite
  split
  · rfl
  · exact hostWriteAt_resetLow ..

theorem hostAccess_resetLow (s : State) (off : Nat) (bytes : List Byte) : (s.hostAccess off bytes).resetLow = s.resetLow := by
  unfold State.hostAccess
  split
  · rfl
  · split
    · exact hostWriteAt_resetLow ..
    · split <;> rfl

/-- Only RESET_N going low takes the pin low (R176). -/
theorem exec_staysHigh {c : Instr} {s t : State} (h : exec c s = .next t) (high : s.resetLow = false) :
    t.resetLow = false ∨ c = .partReset .resetNLow := by
  refine (or_iff_not_imp_right).2 fun other => ?_
  rw [← high]
  cases c with
  | arrival q =>
    cases h
    split
    · rfl
    · split
      · exact capture_resetLow ..
      · exact checkArrival_resetLow ..
  | linkReset => cases h; rfl
  | partReset cause =>
    cases cause with
    | resetNLow => exact absurd rfl other
    | powerOn => cases h; rfl
  | answer p a =>
    cases h
    split
    · rfl
    · rfl
    · exact ownerTakes_resetLow ..
  | expiry p =>
    cases h
    split
    · split
      · exact ownerTakes_resetLow ..
      · rfl
    · rfl
    · rfl
  | grant p =>
    cases h
    split
    · exact arbitrate_resetLow ..
    · rfl
  | apSet => cases h; exact takeOf_resetLow takeApSet_resetLow
  | apRetire => cases h; exact takeOf_resetLow takeApRetire_resetLow
  | apInvalidate => cases h; exact takeOf_resetLow takeApInvalidate_resetLow
  | queryAperture =>
    cases h
    refine takeOf_resetLow fun n => ?_
    unfold State.takeQueryAperture
    split <;> rfl
  | reqEnable => cases h; exact takeRequester_resetLow enable_resetLow
  | reqDisable => cases h; exact takeRequester_resetLow disable_resetLow
  | reqHalt => cases h; exact takeRequester_resetLow halt_resetLow
  | reqResume => cases h; exact takeRequester_resetLow resume_resetLow
  | faultClear => cases h; exact takeRequester_resetLow fun _ _ => rfl
  | queryRequester => cases h; exact takeRequester_resetLow fun _ _ => rfl
  | tcPreload => cases h; exact takeOf_resetLow takeTcPreload_resetLow
  | tcUnpin =>
    cases h
    refine takeOf_resetLow fun n => ?_
    unfold State.takeTcUnpin
    dsimp only
    split
    · rfl
    · split <;> rfl
  | queryTc =>
    cases h
    refine takeOf_resetLow fun n => ?_
    unfold State.takeQueryTc
    dsimp only
    split <;> rfl
  | flush => cases h; exact takeOf_resetLow fun n => waitOrComplete_resetLow ..
  | badOp => cases h; exact takeOf_resetLow fun _ => rfl
  | apRetireCompletion n => cases h; exact completeIf_resetLow ..
  | apInvalidateCompletion n => cases h; exact completeIf_resetLow ..
  | flushCompletion n => cases h; exact completeIf_resetLow ..
  | reqHaltCompletion n => cases h; exact completeIf_resetLow ..
  | tcPreloadCompletion n o =>
    cases h
    split
    · exact endPreload_resetLow ..
    · rfl
  | start n v => cases h; exact hostWrite_resetLow ..
  | ack n v => cases h; exact hostWrite_resetLow ..
  | slotWordWrite n k v => cases h; exact hostWrite_resetLow ..
  | linkEnable v => cases h; exact hostWrite_resetLow ..
  | softReset v => cases h; exact hostWrite_resetLow ..
  | intStatusWrite v => cases h; exact hostWrite_resetLow ..
  | intEnableWrite v => cases h; exact hostWrite_resetLow ..
  | responseLimitWrite v => cases h; exact hostWrite_resetLow ..
  | registerWrite off bytes => cases h; exact hostAccess_resetLow ..
  | resetNRelease => cases h; exact high.symm
  | word7Action3 n v => cases h; exact hostWrite_resetLow ..

/-! ### A part that holds its reset values -/

section Held

variable {s : State} (held : s = s.asReset)
include held

theorem portTag_of_held (p : PortTagId) : s.portTags.get p = .free := by
  rw [held]
  exact vget_replicate ..

theorem slot_of_held (n : SlotId) : (s.slots.get n).state = .free := by
  rw [held]
  exact congrArg Slot.state (vget_replicate ..)

/-- No command is taken from an empty submission list. -/
theorem takeOf_of_held (c : Option Command) (body : SlotId → State) : s.takeOf c body = s := by
  obtain ⟨n, next, -⟩ | h := takeOf_cases s c body
  · simpa [slot_of_held held n] using (nextTake_some next).2
  · exact h

theorem completeIf_of_held (n : SlotId) (c : Command) : s.completeIf n c = s :=
  if_neg fun ready => by simp [slot_of_held held n] at ready

theorem endPreload_of_held (n : SlotId) (o : PreloadEnd) : s.endPreload n o = s :=
  if_neg fun running => by simp [slot_of_held held n] at running

theorem arbitrate_of_held (p : PortTagId) : s.arbitrate p = s := by
  have walks : s.walks = [] := by rw [held]; rfl
  have pwq : s.pwq = [] := by rw [held]; rfl
  have rdt : s.rdt = [] := by rw [held]; rfl
  simp [State.arbitrate, walks, pwq, rdt]

theorem linkReset_of_held : execLinkReset s = .next s := by
  rw [held]
  rfl

theorem tick_of_held : s.tick = s := by
  have free : mapTable laterTag s.portTags = s.portTags := vext fun p => by
    rw [mapTable_get, portTag_of_held held p]
    rfl
  rw [State.tick, free]

/-- While the pin is low nothing but a part reset and the pin's release changes the part: no tag is BUSY, no slot started and
no access heard (R66, R176). -/
theorem exec_of_held (low : s.resetLow = true) (c : Instr) :
    exec c s = .next s ∨ (∃ cause, c = .partReset cause) ∨ c = .resetNRelease := by
  obtain ⟨ignored, -⟩ := lowResetPinIgnoresLinkAndWindowUntilRelease s
  obtain ⟨arrivals, -, slotWrites, registerWrites, accesses⟩ := ignored low
  have taken : ∀ command body, (.next (s.takeOf command body) : Result) = .next s := fun _ _ => congrArg _ (takeOf_of_held held _ _)
  have completed : ∀ n command, (.next (s.completeIf n command) : Result) = .next s := fun _ _ =>
    congrArg _ (completeIf_of_held held _ _)
  cases c with
  | partReset cause => exact .inr (.inl ⟨cause, rfl⟩)
  | resetNRelease => exact .inr (.inr rfl)
  | arrival q => exact .inl (arrivals q)
  | linkReset => exact .inl (linkReset_of_held held)
  | answer p a =>
    have run : exec (.answer p a) s = execAnswer p a s := rfl
    exact .inl (by rw [run, execAnswer, portTag_of_held held p])
  | expiry p =>
    have run : exec (.expiry p) s = execExpiry p s := rfl
    exact .inl (by rw [run, execExpiry, portTag_of_held held p])
  | grant p => exact .inl (congrArg _ ((if_pos (portTag_of_held held p)).trans (arbitrate_of_held held p)))
  | apSet => exact .inl (taken ..)
  | apRetire => exact .inl (taken ..)
  | apInvalidate => exact .inl (taken ..)
  | queryAperture => exact .inl (taken ..)
  | reqEnable => exact .inl (taken ..)
  | reqDisable => exact .inl (taken ..)
  | reqHalt => exact .inl (taken ..)
  | reqResume => exact .inl (taken ..)
  | faultClear => exact .inl (taken ..)
  | queryRequester => exact .inl (taken ..)
  | tcPreload => exact .inl (taken ..)
  | tcUnpin => exact .inl (taken ..)
  | queryTc => exact .inl (taken ..)
  | flush => exact .inl (taken ..)
  | badOp => exact .inl (taken ..)
  | apRetireCompletion n => exact .inl (completed ..)
  | apInvalidateCompletion n => exact .inl (completed ..)
  | flushCompletion n => exact .inl (completed ..)
  | reqHaltCompletion n => exact .inl (completed ..)
  | tcPreloadCompletion n o => exact .inl (congrArg _ ((congrArg (ite _ · s) (endPreload_of_held held n o)).trans (ite_self s)))
  | start n v => exact .inl (slotWrites n v).1
  | ack n v =>
    obtain ⟨-, ack, -⟩ := slotWrites n v
    exact .inl ack
  | word7Action3 n v =>
    obtain ⟨-, -, action3, -⟩ := slotWrites n v
    exact .inl action3
  | slotWordWrite n k v =>
    obtain ⟨-, -, -, word⟩ := slotWrites n v
    exact .inl (word k)
  | linkEnable v => exact .inl (registerWrites v).1
  | softReset v =>
    obtain ⟨-, control, -⟩ := registerWrites v
    exact .inl control
  | intStatusWrite v =>
    obtain ⟨-, -, intStatus, -⟩ := registerWrites v
    exact .inl intStatus
  | intEnableWrite v =>
    obtain ⟨-, -, -, intEnable, -⟩ := registerWrites v
    exact .inl intEnable
  | responseLimitWrite v =>
    obtain ⟨-, -, -, -, limit⟩ := registerWrites v
    exact .inl limit
  | registerWrite off bytes => exact .inl (accesses off bytes)

end Held

theorem exec_resetHeldLaw {c : Instr} {s t : State} (law : ResetHeldLaw s) (h : exec c s = .next t) : ResetHeldLaw t := by
  intro lowAfter
  cases low : s.resetLow with
  | false =>
    obtain high | rfl := exec_staysHigh h low
    · simp [high] at lowAfter
    · cases h
      rfl
  | true =>
    obtain same | ⟨cause, rfl⟩ | rfl := exec_of_held (law low) low c
    · rw [same] at h
      cases h
      exact law low
    · cases cause <;> cases h <;> rfl
    · cases h
      simp at lowAfter

/-- Settles O55: the pin goes low with a part reset, and while it is low only a part reset or the pin's release changes the part. -/
theorem everyStepKeepsTheResetValuesWhileThePinIsLow : Obligations.EveryStepKeepsTheResetValuesWhileThePinIsLow := by
  refine keptByStep_of_exec (fun s rest law low => ?_) (fun s law low => ?_) fun _ _ _ => exec_resetHeldLaw
  · have held := law low
    exact congrArg (fun u => { u with pending := rest }) held
  · rw [tick_of_held (law low)]
    exact law low

end Sys2Proof.Machine

/-! ## The departure of a read that no command has marked -/

namespace Sys2Proof.Machine

theorem tellAll_unmarked {marks : MarkSet} (unmarked : ∀ n, marks.get n = false) (lost : Bool) (ns : List SlotId) (s : State) :
    s.tellAll lost marks ns = s := by
  induction ns with
  | nil => rfl
  | cons n ns ih => rw [State.tellAll, unmarked n]; exact ih

/-- The departure of an unmarked read is its response and its capture. -/
theorem departRead_unmarked {s : State} {p : PortTagId} {l₁ l₂ : List ReadEntry} {d : ReadEntry}
    (first : FirstOf (ReadEntry.holdsTag p) s.rdt l₁ d l₂) (unmarked : ∀ n, d.marks.get n = false) (o : PortOutcome) :
    s.departRead p o = ({ s with rdt := l₁ ++ l₂ }.answerRead d o).captureLoss d.requester
      (fun q => .memoryError q d.linkAddr d.aperture) (failureOf o) := by
  rw [departRead_split first, tellAll_unmarked unmarked]

/-- Settles O35: an unmarked read tells no command, so its departure is what `departRead_unmarked` says. -/
theorem readLeavesOnItsAnswerOrExpiry : Obligations.ReadLeavesOnItsAnswerOrExpiry := by
  intro s p time l₁ d l₂ busy first unmarked
  have departs : ∀ (tag : PortTag) (o : PortOutcome), (s.withPortTag p tag).ownerTakes p .read o =
      ({ s.withPortTag p tag with rdt := l₁ ++ l₂ }.answerRead d o).captureLoss d.requester
        (fun q => .memoryError q d.linkAddr d.aperture) (failureOf o) :=
    fun tag o => departRead_unmarked (s := s.withPortTag p tag) first unmarked o
  refine ⟨fun data => ?_, ?_, fun overdue => ?_⟩
  · refine ⟨fullAnswer s.freeCount d.length data, s.freeCount + (d.length - data.length), ?_, length_fullAnswer _ _ _,
      fun i asked answered => getElem?_fullAnswer _ _ asked answered, fun enough => by omega⟩
    rw [exec_answer_of_busy busy, departs]
    rfl
  · exact ⟨_, (exec_answer_of_busy busy .error).trans (congrArg _ (departs .free .error)), captured_capture _ _ _⟩
  · exact ⟨_, (exec_expiry_of_overdue busy overdue).trans (congrArg _ (departs .quarantined .timeout)), captured_capture _ _ _⟩

end Sys2Proof.Machine

/-! ## Every step keeps the law of link tags

Within an event a tag may for a while be held by none: that of a request that has arrived, of a waiter that has left its walk, of
a read that has left the tracker. `TagsInHand` is the law of link tags with such tags in hand; each operation gives a tag in hand
to a holder or answers it. -/

namespace Sys2Proof.Machine

/-! ### The link tags that are held (R49, R50) -/

/-- The link tag of a request. -/
def tagOf (q : Request) : RequesterId × LinkTag := (q.requester, q.tag)

/-- The link tags that a walk's parked transactions hold. -/
def Walk.linkTags (w : Walk) : List (RequesterId × LinkTag) := w.waiters.map tagOf

/-- The link tag that a read holds, until its discard flag is set. -/
def ReadEntry.linkTags (d : ReadEntry) : List (RequesterId × LinkTag) := if d.discard then [] else [(d.requester, d.tag)]

/-- The link tags that parked transactions and undiscarded reads hold. -/
def State.heldTags (s : State) : List (RequesterId × LinkTag) :=
  s.walks.flatMap Walk.linkTags ++ s.rdt.flatMap ReadEntry.linkTags

/-- The BUSY link tags are those of `ks`, which an event has in hand, and those that are held, each once. -/
def TagsInHand (s : State) (ks : List (RequesterId × LinkTag)) : Prop :=
  ∀ r t, (ks ++ s.heldTags).count (r, t) = if s.linkTag r t = .busy then 1 else 0

theorem count_heldTags (s : State) (r : RequesterId) (t : LinkTag) : s.heldTags.count (r, t) = s.tagHolders r t := by
  have key : ∀ x : RequesterId × LinkTag, (x == (r, t)) = (decide (x.1 = r) && decide (x.2 = t)) := fun x => by
    rw [beq_eq_decide, Bool.eq_iff_iff]
    simp [Prod.ext_iff]
  have parked : (s.walks.flatMap Walk.linkTags).count (r, t) =
      (s.walks.flatMap Walk.waiters).countP fun p => decide (p.requester = r) && decide (p.tag = t) := by
    have tags : s.walks.flatMap Walk.linkTags = (s.walks.flatMap Walk.waiters).map tagOf := List.map_flatMap.symm
    rw [tags, List.count, List.countP_map]
    exact congrArg (fun f => List.countP f _) (funext fun p => key (tagOf p))
  have read : ∀ l : List ReadEntry, (l.flatMap ReadEntry.linkTags).count (r, t) =
      l.countP fun d => !d.discard && decide (d.requester = r) && decide (d.tag = t) := fun l => by
    induction l with
    | nil => rfl
    | cons d l ih =>
      rw [List.flatMap_cons, List.count_append, ih, List.countP_cons, Nat.add_comm]
      cases h : d.discard <;> simp [ReadEntry.linkTags, h, List.count_singleton, key]
  rw [State.heldTags, List.count_append, parked, read, State.tagHolders]

/-- Between events nothing is in hand. -/
theorem linkTagLaw_iff {s : State} : LinkTagLaw s ↔ TagsInHand s [] := by
  simp only [LinkTagLaw, TagsInHand, List.nil_append, count_heldTags]

theorem flatMap_updateFirst {α β : Type} {p : α → Bool} {f : α → α} {g : α → List β} (same : ∀ x, g (f x) = g x) (l : List α) :
    (updateFirst p f l).flatMap g = l.flatMap g := by
  rw [List.flatMap_def, List.flatMap_def, map_updateFirst same]

theorem flatMap_map_same {α β : Type} {f : α → α} {g : α → List β} (same : ∀ x, g (f x) = g x) (l : List α) :
    (l.map f).flatMap g = l.flatMap g := by
  rw [List.flatMap_map]
  exact List.flatMap_congr fun x _ => same x

/-- A requester's waiters taken out of the walks, and those that are left, are the waiters. -/
theorem released_perm (r : RequesterId) (ws : List Walk) :
    ((ws.flatMap fun w => w.waiters.filter fun p => decide (p.requester = r)).map tagOf ++
      (withoutWaitersOf r ws).flatMap Walk.linkTags).Perm (ws.flatMap Walk.linkTags) := by
  have tags : (withoutWaitersOf r ws).flatMap Walk.linkTags =
      (ws.flatMap fun w => w.waiters.filter fun p => !decide (p.requester = r)).map tagOf := by
    rw [withoutWaitersOf, List.flatMap_map, List.map_flatMap]
    exact List.flatMap_congr fun w _ => by simp [Walk.linkTags]
  have whole : ws.flatMap Walk.linkTags = (ws.flatMap Walk.waiters).map tagOf := List.map_flatMap.symm
  rw [tags, whole, ← List.map_append]
  refine List.Perm.map _ ?_
  have := List.filter_append_perm (fun p : Request => decide (p.requester = r)) (ws.flatMap Walk.waiters)
  simpa [List.filter_flatMap] using this

/-- The waiters of the walks in a scope, and those that orphaning leaves, are the waiters. -/
theorem orphaned_perm (p : Walk → Bool) (ws : List Walk) :
    (((ws.filter p).flatMap Walk.waiters).map tagOf ++
      (ws.filterMap fun w => if p w then orphanWalk w else some w).flatMap Walk.linkTags).Perm (ws.flatMap Walk.linkTags) := by
  induction ws with
  | nil => exact .nil
  | cons w ws ih =>
    by_cases scope : p w = true
    · have left : ((w :: ws).filterMap fun w => if p w then orphanWalk w else some w).flatMap Walk.linkTags =
          (ws.filterMap fun w => if p w then orphanWalk w else some w).flatMap Walk.linkTags := by
        cases h : orphanWalk w with
        | none => simp [scope, h]
        | some v => simp [scope, h, Walk.linkTags, (orphanWalk_later h).2.2]
      rw [left, List.filter_cons_of_pos scope]
      simpa [Walk.linkTags] using ih.append_left (w.waiters.map tagOf)
    · simp only [List.filter_cons, List.filterMap_cons, scope, List.flatMap_cons]
      exact (List.perm_append_comm_assoc ..).trans (ih.append_left _)

section InHand

variable {s : State} {ks : List (RequesterId × LinkTag)} (tags : TagsInHand s ks)

include tags

/-! ### Held tags, tags in hand and responses -/

/-- Tags pass between hand and holders. -/
theorem TagsInHand.of_perm {t : State} {ks' : List (RequesterId × LinkTag)} (same : t.linkTags = s.linkTags)
    (perm : (ks' ++ t.heldTags).Perm (ks ++ s.heldTags)) : TagsInHand t ks' := fun r g => by
  rw [perm.count_eq, tags r g, State.linkTag, State.linkTag, same]

theorem TagsInHand.of_held {t : State} (same : t.linkTags = s.linkTags)
    (walks : t.walks.flatMap Walk.linkTags = s.walks.flatMap Walk.linkTags)
    (reads : t.rdt.flatMap ReadEntry.linkTags = s.rdt.flatMap ReadEntry.linkTags) : TagsInHand t ks :=
  tags.of_perm same (by rw [State.heldTags, State.heldTags, walks, reads])

/-- Who holds which tag stands in the tags, the walks and the reads. -/
theorem TagsInHand.of_same {t : State} (same : t.linkTags = s.linkTags) (walks : t.walks = s.walks) (reads : t.rdt = s.rdt) :
    TagsInHand t ks := tags.of_held same (by rw [walks]) (by rw [reads])

end InHand

/-- A response frees a tag that is in hand. -/
theorem TagsInHand.respond {s : State} {ks : List (RequesterId × LinkTag)} {r : RequesterId} {t : LinkTag}
    (tags : TagsInHand s ((r, t) :: ks)) (x : LinkReply) : TagsInHand (s.respond r t x) ks := fun r' t' => by
  have before := tags r' t'
  have held : (s.respond r t x).heldTags = s.heldTags := rfl
  rw [List.cons_append, List.count_cons] at before
  rw [held, respond_linkTag]
  by_cases same : (r, t) = (r', t')
  · obtain ⟨rfl, rfl⟩ := Prod.mk.inj same
    simp only [beq_self_eq_true, if_true] at before
    simp only [and_self, if_true, reduceCtorEq, if_false]
    split at before <;> omega
  · have other : ¬(r = r' ∧ t = t') := fun h => same (Prod.ext h.1 h.2)
    rw [if_neg other]
    simpa [same, beq_false_of_ne] using before

theorem TagsInHand.respondAll {s : State} {ks : List (RequesterId × LinkTag)} {ps : List Request}
    (tags : TagsInHand s (ps.map tagOf ++ ks)) (x : LinkReply) : TagsInHand (s.respondAll ps x) ks := by
  induction ps generalizing s with
  | nil => exact tags
  | cons p ps ih => exact ih (TagsInHand.respond tags x)

/-- An arrival takes a FREE tag into hand. -/
theorem TagsInHand.arrives {s : State} {ks : List (RequesterId × LinkTag)} (tags : TagsInHand s ks) {r : RequesterId} {t : LinkTag}
    (free : s.linkTag r t ≠ .busy) : TagsInHand (s.setLinkTag r t .busy) ((r, t) :: ks) := fun r' t' => by
  have before := tags r' t'
  have held : (s.setLinkTag r t .busy).heldTags = s.heldTags := rfl
  rw [held, List.cons_append, List.count_cons, before, State.setLinkTag_linkTag]
  by_cases same : (r, t) = (r', t')
  · obtain ⟨rfl, rfl⟩ := Prod.mk.inj same
    simp [free]
  · have other : ¬(r = r' ∧ t = t') := fun h => same (Prod.ext h.1 h.2)
    simp [same, other, beq_false_of_ne]

section InHand

variable {s : State} {ks : List (RequesterId × LinkTag)}

/-- Parked transactions leave the walks and are answered. -/
theorem TagsInHand.answerWaiters (tags : TagsInHand s ks) {ws : List Walk} {ps : List Request}
    (perm : (ps.map tagOf ++ ws.flatMap Walk.linkTags).Perm (s.walks.flatMap Walk.linkTags)) (x : LinkReply) :
    TagsInHand (State.respondAll { s with walks := ws } ps x) ks := by
  refine TagsInHand.respondAll (s := { s with walks := ws }) (tags.of_perm rfl ?_) x
  rw [List.append_assoc]
  refine (List.perm_append_comm_assoc ..).trans (.append_left ks ?_)
  rw [State.heldTags, ← List.append_assoc]
  exact perm.append_right _

theorem TagsInHand.release (tags : TagsInHand s ks) (r : RequesterId) (x : LinkReply) : TagsInHand (s.release r x) ks :=
  tags.answerWaiters (released_perm r s.walks) x

theorem TagsInHand.orphan (tags : TagsInHand s ks) (p : Walk → Bool) (x : LinkReply) : TagsInHand (s.orphan p x) ks :=
  tags.answerWaiters (orphaned_perm p s.walks) x

theorem TagsInHand.capture (tags : TagsInHand s ks) (r : RequesterId) (f : FaultRecord) : TagsInHand (s.capture r f) ks := by
  by_cases stops : (s.requesters.get r).stops
  · rw [capture_stopping s r f stops]
    exact TagsInHand.release (s := s.setRequester r _) tags r _
  · rw [capture_counting s r f stops]
    exact tags

/-- A request in hand is answered ABORT and its fault captured. -/
theorem TagsInHand.aborted {q : Request} (tags : TagsInHand s (tagOf q :: ks)) (x : LinkReply) (f : FaultRecord) :
    TagsInHand ((s.respond q.requester q.tag x).capture q.requester f) ks :=
  (TagsInHand.respond tags x).capture _ _

/-- A READ keeps its tag in the tracker; a WRITE, and a READ that finds no place, is answered. -/
theorem TagsInHand.enter {q : Request} (tags : TagsInHand s (tagOf q :: ks)) (a : ApIndex) (ord : ReadOrder) (m : MemAddr) :
    TagsInHand (s.enter a ord m q) ks := by
  obtain ⟨en, data, -, -, h⟩ | ⟨-, -, h⟩ | ⟨-, h⟩ | ⟨-, h⟩ := enter_cases s a ord m q <;> rw [h]
  · exact TagsInHand.respond (s := s.postWrite a m q en data) tags _
  · refine tags.of_perm rfl ?_
    have held : (s.trackRead a ord m q).heldTags = s.heldTags ++ [tagOf q] := by
      simp [State.heldTags, State.trackRead, newRead, ReadEntry.linkTags, tagOf]
    rw [held, ← List.append_assoc]
    exact List.perm_append_singleton ..
  · exact TagsInHand.respond tags _
  · exact TagsInHand.respond tags _

/-- A parked transaction keeps its tag; one that finds no place is answered. -/
theorem TagsInHand.park {q : Request} (tags : TagsInHand s (tagOf q :: ks)) {a : ApIndex} {gen : Generation} {page : Nat}
    (walked : s.walks.any (Walk.isFor a gen page) = true) : TagsInHand (s.park a gen page q) ks := by
  unfold State.park
  split
  · refine tags.of_perm rfl ?_
    rcases split_at_first (Walk.isFor a gen page) s.walks with unwalked | ⟨l₁, w, l₂, split, before, isFor⟩
    · simp [List.any_eq_false.2 fun w hw => Bool.not_eq_true _ ▸ unwalked w hw] at walked
    · simp only [State.heldTags]
      rw [split, updateFirst_split _ _ before isFor]
      simp only [List.flatMap_append, List.flatMap_cons, Walk.linkTags, List.map_append, List.map_cons, List.map_nil]
      grind
  · exact TagsInHand.respond tags _

theorem TagsInHand.miss {q : Request} (tags : TagsInHand s (tagOf q :: ks)) (a : ApIndex) (gen : Generation) (page : Nat)
    (mapBase : MemAddr) : TagsInHand (s.miss a gen page mapBase q) ks := by
  unfold State.miss
  split
  · exact tags.park ‹_›
  · split
    · have started : TagsInHand { s with walks := s.walks ++ [newWalk a gen page mapBase] } (tagOf q :: ks) :=
        tags.of_held rfl (by simp [newWalk, Walk.linkTags]) rfl
      exact started.park (by simp [Walk.isFor, newWalk])
    · exact TagsInHand.respond tags _


/-! ### Marks and completions -/

theorem TagsInHand.mark (tags : TagsInHand s ks) (n : SlotId) (pw : PostedWrite → Bool) (pr : ReadEntry → Bool) :
    TagsInHand (s.mark n pw pr) ks :=
  tags.of_held rfl rfl (flatMap_map_same (fun d => by split <;> rfl) s.rdt)

theorem TagsInHand.complete (tags : TagsInHand s ks) (n : SlotId) : TagsInHand (s.complete n) ks := by
  rw [complete_frame]
  exact tags

theorem TagsInHand.waitOrComplete (tags : TagsInHand s ks) (n : SlotId) : TagsInHand (s.waitOrComplete n) ks := by
  unfold State.waitOrComplete
  split
  · exact tags
  · exact tags.complete n

theorem TagsInHand.tellAll (tags : TagsInHand s ks) (lost : Bool) (marks : MarkSet) (ns : List SlotId) :
    TagsInHand (s.tellAll lost marks ns) ks := by
  rw [tellAll_frame]
  exact tags

theorem TagsInHand.endPreloadOf (tags : TagsInHand s ks) (w : Walk) (o : PreloadEnd) : TagsInHand (s.endPreloadOf w o) ks := by
  rw [endPreloadOf_frame]
  exact tags

/-! ### Departures of writes and reads -/

theorem TagsInHand.departWrite (tags : TagsInHand s ks) (p : PortTagId) (o : PortOutcome) : TagsInHand (s.departWrite p o) ks := by
  unfold State.departWrite
  split
  · exact tags
  · next e _ =>
    have left : TagsInHand { s with pwq := s.pwq.eraseP (PostedWrite.holdsTag p), rdt := s.rdt.map (freeRead e.seq) } ks :=
      tags.of_held rfl rfl (flatMap_map_same (f := freeRead e.seq) (fun _ => rfl) s.rdt)
    dsimp only
    split
    · exact left.tellAll _ _ _
    · exact (left.capture _ _).tellAll _ _ _

/-- A read that leaves is answered under the tag that it held, if it held one. -/
theorem TagsInHand.answerRead {d : ReadEntry} (tags : TagsInHand s (d.linkTags ++ ks)) (o : PortOutcome) :
    TagsInHand (s.answerRead d o) ks := by
  cases discard : d.discard with
  | true =>
    have none : TagsInHand s ks := by simpa [ReadEntry.linkTags, discard] using tags
    cases o with
    | ok data =>
      have used : TagsInHand (s.useFree d.length data) ks := none
      simpa [State.answerRead, discard] using used
    | error => simpa [State.answerRead, discard] using none
    | timeout => simpa [State.answerRead, discard] using none
  | false =>
    have one : TagsInHand s ((d.requester, d.tag) :: ks) := by simpa [ReadEntry.linkTags, discard] using tags
    cases o with
    | ok data => simpa [State.answerRead, discard] using TagsInHand.respond (s := s.useFree d.length data) one _
    | error => simpa [State.answerRead, discard] using one.respond _
    | timeout => simpa [State.answerRead, discard] using one.respond _

theorem TagsInHand.departRead (tags : TagsInHand s ks) (p : PortTagId) (o : PortOutcome) : TagsInHand (s.departRead p o) ks := by
  rcases split_at_first (ReadEntry.holdsTag p) s.rdt with none | ⟨l₁, d, l₂, first⟩
  · rw [State.departRead, find_none _ none]
    exact tags
  · have left : TagsInHand { s with rdt := l₁ ++ l₂ } (d.linkTags ++ ks) := tags.of_perm rfl (by
      simp only [State.heldTags]
      rw [first.1]
      simp only [List.flatMap_append, List.flatMap_cons]
      grind)
    rw [departRead_split first]
    refine TagsInHand.tellAll ?_ _ _ _
    cases failureOf o with
    | none => exact left.answerRead o
    | some q => exact (left.answerRead o).capture _ _

end InHand

/-! ### The completion of a walk -/

/-- What finishes a walk's waiters settles the tag of each, and leaves the walks as they are or takes the waiters of a requester
that it stops. -/
structure SettlesTags (finish : Walk → Request → State → State) : Prop where
  tags : ∀ (w : Walk) (q : Request) {s : State} {ks : List (RequesterId × LinkTag)},
    TagsInHand s (tagOf q :: ks) → TagsInHand (finish w q s) ks
  walks : ∀ (w : Walk) (q : Request) (s : State),
    (finish w q s).walks = s.walks ∨ (finish w q s).walks = withoutWaitersOf q.requester s.walks

theorem resumeWaiter_settlesTags (pe : PageEntry) : SettlesTags (State.resumeWaiter pe) where
  tags w q s ks tags := by
    unfold State.resumeWaiter
    split
    · exact tags.enter _ _ _
    · exact tags.aborted _ _
  walks := resumeWaiter_walks pe

theorem noPageWaiter_settlesTags : SettlesTags State.noPageWaiter where
  tags _ _ _ _ tags := tags.aborted _ _
  walks _ _ _ := (capture_walks _ _ _).imp_right And.right

theorem walkErrorWaiter_settlesTags (qual : Qualifier) : SettlesTags (State.walkErrorWaiter qual) where
  tags _ _ _ _ tags := tags.aborted _ _
  walks _ _ _ := (capture_walks _ _ _).imp_right And.right

/-- A walk without waiters is removed. -/
theorem TagsInHand.removeWalk {s : State} {ks : List (RequesterId × LinkTag)} (tags : TagsInHand s ks) {p : PortTagId}
    {l₁ l₂ : List Walk} {w : Walk} (first : FirstOf (Walk.holdsTag p) s.walks l₁ w l₂) (empty : w.waiters = []) :
    TagsInHand (s.removeWalk p) ks := by
  rw [removeWalk_split first]
  refine tags.of_held rfl ?_ rfl
  rw [first.1]
  simp [Walk.linkTags, empty]

/-- The turns settle the tags of all waiters of the walk, which is then removed. -/
theorem TagsInHand.finishWaiters {finish : Walk → Request → State → State} (settles : SettlesTags finish) {p : PortTagId}
    {l₁ l₂ : List Walk} {w : Walk} {s : State} {ks : List (RequesterId × LinkTag)} (tags : TagsInHand s ks)
    (first : FirstOf (Walk.holdsTag p) s.walks l₁ w l₂) {k : Nat} (enough : w.waiters.length ≤ k) :
    TagsInHand ((State.finishWaiters p finish k s).removeWalk p) ks := by
  induction k generalizing s l₁ l₂ w with
  | zero =>
    have waiters : w.waiters = [] := List.length_eq_zero_iff.1 (Nat.le_zero.1 enough)
    rw [finishWaiters_done first waiters]
    exact tags.removeWalk first waiters
  | succ k ih =>
    cases waiters : w.waiters with
    | nil =>
      rw [finishWaiters_done first waiters]
      exact tags.removeWalk first waiters
    | cons q qs =>
      rw [waiters] at enough
      have enough : qs.length ≤ k := Nat.le_of_succ_le_succ enough
      have inHand : TagsInHand { s with walks := l₁ ++ { w with waiters := qs } :: l₂ } (tagOf q :: ks) := tags.of_perm rfl (by
        simp only [State.heldTags]
        rw [first.1]
        simp only [List.flatMap_append, List.flatMap_cons, Walk.linkTags, waiters, List.map_cons]
        grind)
      rw [finishWaiters_turn first waiters]
      have turn := settles.tags w q inHand
      have next := first.withWaiters qs
      rcases settles.walks w q { s with walks := l₁ ++ { w with waiters := qs } :: l₂ } with same | released
      · exact ih turn (w := { w with waiters := qs }) (by rw [same]; exact next) enough
      · refine ih turn (by rw [released]; exact next.withoutWaitersOf q.requester) ?_
        exact (List.length_filter_le ..).trans enough

section InHand

variable {s : State} {ks : List (RequesterId × LinkTag)} (tags : TagsInHand s ks) {p : PortTagId} {l₁ l₂ : List Walk} {w : Walk}
include tags

theorem TagsInHand.completeWalk (first : FirstOf (Walk.holdsTag p) s.walks l₁ w l₂) (o : PortOutcome) :
    TagsInHand (s.completeWalk p w o) ks := by
  have ended : ∀ {u : State} {finish : Walk → Request → State → State} (e : PreloadEnd), SettlesTags finish →
      TagsInHand u ks → u.walks = s.walks →
      TagsInHand ((State.finishWaiters p finish w.waiters.length (u.endPreloadOf w e)).removeWalk p) ks :=
    fun e settles tags walks => (tags.endPreloadOf w e).finishWaiters settles
      (by rw [endPreloadOf_walks, walks]; exact first) (Nat.le_refl _)
  cases o with
  | ok data =>
    unfold State.completeWalk
    dsimp only
    split
    · exact ended _ (resumeWaiter_settlesTags _) tags rfl
    · exact ended _ noPageWaiter_settlesTags tags rfl
  | error => exact ended _ (walkErrorWaiter_settlesTags .error) tags rfl
  | timeout => exact ended _ (walkErrorWaiter_settlesTags .timeout) tags rfl

/-- An orphaned walk has no waiters, and any other is completed. -/
theorem TagsInHand.departWalk (orphans : ∀ w ∈ s.walks, w.orphaned = true → w.waiters = []) (p : PortTagId) (o : PortOutcome) :
    TagsInHand (s.departWalk p o) ks := by
  unfold State.departWalk
  split
  · exact tags
  · next w found =>
    obtain ⟨l₁, l₂, first⟩ := first_of_find found
    split
    · next orphaned => exact tags.removeWalk first (orphans w (List.mem_of_find?_eq_some found) orphaned)
    · exact tags.completeWalk first o

theorem TagsInHand.ownerTakes (orphans : ∀ w ∈ s.walks, w.orphaned = true → w.waiters = []) (p : PortTagId) (k : PortKind)
    (o : PortOutcome) : TagsInHand (s.ownerTakes p k o) ks := by
  cases k with
  | walk => exact tags.departWalk orphans p o
  | write => exact tags.departWrite p o
  | read => exact tags.departRead p o

theorem TagsInHand.arbitrate (p : PortTagId) : TagsInHand (s.arbitrate p) ks := by
  have walk : ∀ w, TagsInHand (s.issueWalk p w) ks := fun _ =>
    tags.of_held rfl (flatMap_updateFirst (f := fun (w : Walk) => { w with state := .issued p }) (fun _ => rfl) _) rfl
  have write : ∀ e, TagsInHand (s.issueWrite p e) ks := fun _ => tags
  have read : ∀ d, TagsInHand (s.issueRead p d) ks := fun _ =>
    tags.of_held rfl rfl (flatMap_updateFirst (f := fun (d : ReadEntry) => { d with state := .issued p }) (fun _ => rfl) _)
  obtain ⟨w, -, h⟩ | ⟨-, e, -, ⟨h, -⟩ | ⟨h, -⟩⟩ | ⟨-, d, -, ⟨h, -⟩ | ⟨h, -⟩⟩ | h := arbitrate_cases s p <;> rw [h]
  · exact walk w
  · exact write e
  · exact write e
  · exact read d
  · exact read d
  · exact tags

end InHand

/-! ### Arrivals -/

section Arrival

variable {s : State} {q : Request} {ks : List (RequesterId × LinkTag)} (tags : TagsInHand s (tagOf q :: ks))
include tags

theorem TagsInHand.translate (a : ApIndex) (g : Grant) : TagsInHand (s.translate a g q) ks := by
  unfold State.translate
  split
  · exact tags.enter _ _ _
  · dsimp only
    split
    · have headed : ∀ tc, TagsInHand { s with tc := tc } (tagOf q :: ks) := fun _ => tags
      unfold State.hit
      split
      · exact (headed _).enter _ _ _
      · exact (headed _).aborted _ _
    · exact tags.miss _ _ _ _

theorem TagsInHand.checkAdmission : TagsInHand (s.checkAdmission q) ks := by
  unfold State.checkAdmission
  split
  · exact TagsInHand.respond tags _
  · split
    · exact tags.aborted _ _
    · split
      · exact tags.translate _ _
      · exact tags.aborted _ _

theorem TagsInHand.checkArrival : TagsInHand (s.checkArrival q) ks := by
  have masked : tagOf (maskEnables q) = tagOf q := by simp [tagOf]
  unfold State.checkArrival
  split
  · split
    · exact TagsInHand.checkAdmission (masked ▸ tags)
    · exact TagsInHand.respond tags _
  · exact tags.aborted _ _

end Arrival

/-! ### LINK_RESET -/

/-- A link reset leaves no holder and no BUSY tag. -/
theorem tagsInHand_linkReset {s t : State} (h : exec .linkReset s = .next t) : TagsInHand t [] := by
  cases h
  have parked : (s.walks.map fun (w : Walk) => { w with waiters := [] }).flatMap Walk.linkTags = [] := by
    simp [List.flatMap_map, Walk.linkTags]
  have reads : (s.rdt.map fun (d : ReadEntry) => { d with discard := true }).flatMap ReadEntry.linkTags = [] := by
    simp [List.flatMap_map, ReadEntry.linkTags]
  intro r t
  simp [State.heldTags, parked, reads, State.linkTag]

/-- Without a BUSY tag nothing is parked and every read is to be discarded. -/
theorem idle_of_allFree {s : State} (law : LinkTagLaw s) (free : ∀ r g, s.linkTag r g = .free) :
    (∀ w ∈ s.walks, w.waiters = []) ∧ ∀ d ∈ s.rdt, d.discard = true := by
  have none : s.heldTags = [] := List.eq_nil_iff_forall_not_mem.2 fun ⟨r, g⟩ held => by
    have count := linkTagLaw_iff.1 law r g
    rw [free r g] at count
    exact List.count_eq_zero.1 count held
  obtain ⟨parked, reads⟩ := List.append_eq_nil_iff.1 none
  refine ⟨fun w hw => List.map_eq_nil_iff.1 (List.flatMap_eq_nil_iff.1 parked w hw), fun d hd => ?_⟩
  have holds := List.flatMap_eq_nil_iff.1 reads d hd
  by_contra kept
  simp [ReadEntry.linkTags, kept] at holds

/-- Settles O13: with every tag FREE the law of link tags leaves nothing to remove and no flag to set. -/
theorem linkResetFreesTagsAndKeepsTheRest : Obligations.LinkResetFreesTagsAndKeepsTheRest := by
  intro s
  refine ⟨⟨_, rfl, fun r g => by simp [State.linkTag], rfl⟩, fun law free => ?_⟩
  obtain ⟨unparked, discarded⟩ := idle_of_allFree law free
  have tags : s.linkTags = Vector.replicate 16 (Vector.replicate 4 .free) :=
    linkTags_ext fun r g => (free r g).trans (by simp)
  have walks : (s.walks.map fun (w : Walk) => { w with waiters := [] }) = s.walks :=
    (List.map_congr_left fun w hw => by rw [← unparked w hw]; rfl).trans (List.map_id _)
  have reads : (s.rdt.map fun (d : ReadEntry) => { d with discard := true }) = s.rdt :=
    (List.map_congr_left fun d hd => by rw [← discarded d hd]; rfl).trans (List.map_id _)
  have run : exec .linkReset s = execLinkReset s := rfl
  rw [run, execLinkReset, walks, reads, ← tags]

/-! ### The commands -/

section InHand

variable {s : State} {ks : List (RequesterId × LinkTag)} (tags : TagsInHand s ks)
include tags

theorem TagsInHand.takeOf {c : Option Command} {body : SlotId → State} (taken : ∀ n, TagsInHand (body n) ks) :
    TagsInHand (s.takeOf c body) ks := by
  obtain ⟨n, -, -, h⟩ | h := takeOf_cases s c body <;> rw [h]
  · exact taken n
  · exact tags

theorem TagsInHand.takeRequester {c : Option Command} {body : SlotId → RequesterId → State}
    (taken : ∀ n r, TagsInHand (body n r) ks) : TagsInHand (s.takeOf c fun n => s.takeRequester n (body n)) ks :=
  tags.takeOf fun n => by
    unfold State.takeRequester
    split
    · exact tags
    · exact taken n _

/-- Who holds which tag is no matter of AP_SET. -/
theorem TagsInHand.takeApSet (n : SlotId) : TagsInHand (s.takeApSet n) ks := by
  unfold State.takeApSet State.grantAperture
  dsimp only
  repeat' split
  all_goals exact tags

/-- A command that drains an aperture orphans the walks of its scope, marks its entries, and waits or completes. -/
theorem TagsInHand.drains (n : SlotId) (p : Walk → Bool) (x : LinkReply) (pw : PostedWrite → Bool) (pr : ReadEntry → Bool)
    (v v' : Word) :
    TagsInHand (((((s.orphan p x).mark n pw pr).writeWord n 5 v).writeWord n 6 v').waitOrComplete n) ks := by
  have marked : TagsInHand ((s.orphan p x).mark n pw pr) ks := (tags.orphan p x).mark n pw pr
  have written : TagsInHand ((((s.orphan p x).mark n pw pr).writeWord n 5 v).writeWord n 6 v') ks := marked
  exact written.waitOrComplete n

theorem TagsInHand.takeApRetire (n : SlotId) : TagsInHand (s.takeApRetire n) ks := by
  unfold State.takeApRetire
  split
  · exact tags
  · next a _ =>
    split
    · exact tags
    · exact tags
    · next g _ =>
      have retiring : TagsInHand ((s.setAperture a
          { generation := (s.apertures.get a).generation, life := .retiring g }).dropEntries fun e => decide (e.aperture = a)) ks :=
        tags
      split
      · exact retiring.drains n _ _ _ _ _ _
      · exact tags

theorem TagsInHand.takeApInvalidate (n : SlotId) : TagsInHand (s.takeApInvalidate n) ks := by
  unfold State.takeApInvalidate
  dsimp only
  split
  · exact tags
  · split
    · have dropped : ∀ p, TagsInHand (s.dropEntries p) ks := fun _ => tags
      split
      · exact (dropped _).drains n _ _ _ _ _ _
      · exact tags
    · exact tags

theorem TagsInHand.takeFlush (n : SlotId) : TagsInHand (s.takeFlush n) ks := by
  have marked := tags.mark n (fun _ => true) fun _ => false
  have written : TagsInHand ((s.mark n (fun _ => true) fun _ => false).writeWord n 5 0) ks := marked
  exact written.waitOrComplete n

theorem TagsInHand.enable (n : SlotId) (r : RequesterId) : TagsInHand (s.enable n r) ks := by
  unfold State.enable
  dsimp only
  split <;> exact tags

theorem TagsInHand.disable (n : SlotId) (r : RequesterId) : TagsInHand (s.disable n r) ks := by
  have disabled : TagsInHand (s.setRequester r { s.requesters.get r with state := .disabled }) ks := tags
  unfold State.disable
  dsimp only
  split
  · exact disabled.release r _
  · exact disabled

theorem TagsInHand.drainRequester (n : SlotId) (r : RequesterId) : TagsInHand (s.drainRequester n r) ks :=
  (tags.mark n _ _).waitOrComplete n

theorem TagsInHand.halt (n : SlotId) (r : RequesterId) : TagsInHand (s.halt n r) ks := by
  have halting : TagsInHand (s.setRequester r { s.requesters.get r with state := .halting }) ks := tags
  unfold State.halt
  dsimp only
  split
  · exact (halting.release r _).drainRequester n r
  · exact halting.drainRequester n r
  all_goals exact tags

theorem TagsInHand.resume (n : SlotId) (r : RequesterId) : TagsInHand (s.resume n r) ks := by
  unfold State.resume
  dsimp only
  split <;> exact tags

/-- A preload joins a walk, or starts one without waiters. -/
theorem TagsInHand.preloadWalk (n : SlotId) (a : ApIndex) (gen : Generation) (page : Nat) (mapBase : MemAddr) :
    TagsInHand (s.preloadWalk n a gen page mapBase) ks := by
  unfold State.preloadWalk
  dsimp only
  split
  · exact tags.of_held rfl (flatMap_updateFirst
      (f := fun (w : Walk) => { w with preload := some (n, slotFlag (s.slots.get n)) }) (fun _ => rfl) _) rfl
  · split
    · exact tags.of_held rfl (by simp [State.setSlotState, State.setSlot, newWalk, Walk.linkTags]) rfl
    · exact tags

theorem TagsInHand.takeTcPreload (n : SlotId) : TagsInHand (s.takeTcPreload n) ks := by
  unfold State.takeTcPreload
  dsimp only
  split
  · exact tags
  · split
    · split
      · exact tags
      · split
        · split
          · unfold State.preloadPresent
            dsimp only
            split <;> exact tags
          · exact tags.preloadWalk n _ _ _ _
        · exact tags
    · exact tags

theorem TagsInHand.completeIf (n : SlotId) (c : Command) : TagsInHand (s.completeIf n c) ks := by
  unfold State.completeIf
  split
  · exact tags.complete n
  · exact tags

end InHand

theorem tagsInHand_partReset (s : State) : TagsInHand s.partReset [] := fun r t => by
  simp [State.partReset, State.reset, State.heldTags, State.linkTag]

section Commands

variable {s : State} (tags : TagsInHand s [])
include tags

theorem TagsInHand.hostWriteAt (w : WindowWord) (v : Word) : TagsInHand (s.hostWriteAt w v) [] := by
  obtain h | h := hostWriteAt_cases s w v <;> rw [h]
  · exact tagsInHand_partReset s
  · exact tags

theorem TagsInHand.hostWrite (w : WindowWord) (v : Word) : TagsInHand (s.hostWrite w v) [] := by
  unfold State.hostWrite
  split
  · exact tags
  · exact tags.hostWriteAt w v

theorem TagsInHand.hostAccess (off : Nat) (bytes : List Byte) : TagsInHand (s.hostAccess off bytes) [] := by
  unfold State.hostAccess
  split
  · exact tags
  · split
    · exact tags.hostWriteAt _ _
    · split
      · exact tags
      · exact tags

/-- Between commands no tag is in hand. -/
theorem TagsInHand.exec (orphans : ∀ w ∈ s.walks, w.orphaned = true → w.waiters = []) {c : Instr} {t : State}
    (h : exec c s = .next t) : TagsInHand t [] := by
  cases c with
  | arrival q =>
    cases h
    split
    · exact tags
    · split
      · exact tags.capture _ _
      · next free => exact TagsInHand.checkArrival (tags.arrives free)
  | linkReset => exact tagsInHand_linkReset h
  | partReset cause => cases cause <;> cases h <;> exact tagsInHand_partReset s
  | answer p a =>
    have freed : TagsInHand (s.setPortTag p .free) [] := tags
    cases h
    split
    · exact tags
    · exact freed
    · exact freed.ownerTakes orphans p _ _
  | expiry p =>
    have quarantined : TagsInHand (s.setPortTag p .quarantined) [] := tags
    cases h
    split
    · split
      · exact quarantined.ownerTakes orphans p _ _
      · exact tags
    · exact tags
    · exact tags
  | grant p =>
    cases h
    split
    · exact tags.arbitrate p
    · exact tags
  | apSet => cases h; exact tags.takeOf tags.takeApSet
  | apRetire => cases h; exact tags.takeOf tags.takeApRetire
  | apInvalidate => cases h; exact tags.takeOf tags.takeApInvalidate
  | queryAperture =>
    cases h
    refine tags.takeOf fun n => ?_
    unfold State.takeQueryAperture
    split <;> exact tags
  | reqEnable => cases h; exact tags.takeRequester tags.enable
  | reqDisable => cases h; exact tags.takeRequester tags.disable
  | reqHalt => cases h; exact tags.takeRequester tags.halt
  | reqResume => cases h; exact tags.takeRequester tags.resume
  | faultClear => cases h; exact tags.takeRequester fun _ _ => tags
  | queryRequester => cases h; exact tags.takeRequester fun _ _ => tags
  | tcPreload => cases h; exact tags.takeOf tags.takeTcPreload
  | tcUnpin =>
    cases h
    refine tags.takeOf fun n => ?_
    unfold State.takeTcUnpin
    dsimp only
    split
    · exact tags
    · split <;> exact tags
  | queryTc =>
    cases h
    refine tags.takeOf fun n => ?_
    unfold State.takeQueryTc
    dsimp only
    split <;> exact tags
  | flush => cases h; exact tags.takeOf tags.takeFlush
  | badOp => cases h; exact tags.takeOf fun _ => tags
  | apRetireCompletion n => cases h; exact tags.completeIf n _
  | apInvalidateCompletion n => cases h; exact tags.completeIf n _
  | flushCompletion n => cases h; exact tags.completeIf n _
  | reqHaltCompletion n => cases h; exact tags.completeIf n _
  | tcPreloadCompletion n o =>
    cases h
    split
    · rw [endPreload_frame]
      exact tags
    · exact tags
  | start n v => cases h; exact tags.hostWrite _ _
  | ack n v => cases h; exact tags.hostWrite _ _
  | slotWordWrite n k v => cases h; exact tags.hostWrite _ _
  | linkEnable v => cases h; exact tags.hostWrite _ _
  | softReset v => cases h; exact tags.hostWrite _ _
  | intStatusWrite v => cases h; exact tags.hostWrite _ _
  | intEnableWrite v => cases h; exact tags.hostWrite _ _
  | responseLimitWrite v => cases h; exact tags.hostWrite _ _
  | registerWrite off bytes => cases h; exact tags.hostAccess _ _
  | resetNRelease => cases h; exact tags
  | word7Action3 n v => cases h; exact tags.hostWrite _ _

end Commands

theorem TranslationLaw.orphans_bare {s : State} (law : TranslationLaw s) : ∀ w ∈ s.walks, w.orphaned = true → w.waiters = [] := by
  obtain ⟨-, -, orphans, -⟩ := law
  exact fun w hw orphaned => (orphans w hw orphaned).1

/-- Settles O48: whatever an event takes into hand it gives to a holder or answers, and an orphaned walk ends without waiters. -/
theorem everyStepKeepsOneHolderForABusyLinkTag : Obligations.EveryStepKeepsOneHolderForABusyLinkTag := by
  intro s s' ⟨translations, links⟩ h
  refine ⟨keptByStep_of_move (fun _ _ => Move.translationLaw) s s' translations h, linkTagLaw_iff.2 ?_⟩
  have tags := linkTagLaw_iff.1 links
  obtain ⟨c, rest, -, h⟩ | ⟨-, rfl⟩ := step_cases h
  · exact TagsInHand.exec (s := { s with pending := rest }) tags translations.orphans_bare h
  · exact tags

end Sys2Proof.Machine

/-! ## Every step keeps the capacities

A collection grows only where an operation has looked at its room: the capacity check of a request that enters, the park pool and
the walk slots at a miss, the victim and the pin at an installation. -/

namespace Sys2Proof.Machine

/-! ### Counts -/

theorem countP_updateFirst_le {α : Type} {p q : α → Bool} {f : α → α} (fewer : ∀ x, q (f x) = true → q x = true) (l : List α) :
    (updateFirst p f l).countP q ≤ l.countP q := by
  induction l with
  | nil => exact Nat.le_refl _
  | cons x xs ih =>
    unfold updateFirst
    split
    · have := fewer x
      simp only [List.countP_cons]
      grind
    · simpa only [List.countP_cons] using Nat.add_le_add_right ih _

/-- How many parked transactions some walks hold. -/
def parkedIn (ws : List Walk) : Nat := (ws.map fun w => w.waiters.length).sum

theorem parkedCount_eq (s : State) : s.parkedCount = parkedIn s.walks := rfl

@[simp] theorem parkedIn_cons (w : Walk) (ws : List Walk) : parkedIn (w :: ws) = w.waiters.length + parkedIn ws := by
  simp [parkedIn]

theorem parkedIn_append (ws vs : List Walk) : parkedIn (ws ++ vs) = parkedIn ws + parkedIn vs := by
  simp [parkedIn]

/-- Walks later on are no more, and hold no more parked transactions. -/
theorem length_parkedIn_of_later {ws vs : List Walk} (later : List.SublistForall₂ Walk.later ws vs) :
    ws.length ≤ vs.length ∧ parkedIn ws ≤ parkedIn vs := by
  induction later with
  | nil => exact ⟨Nat.zero_le _, Nat.zero_le _⟩
  | @cons v w _ _ hvw _ ih =>
    obtain ⟨-, waiters, -⟩ := hvw
    have := waiters.length_le
    simp only [List.length_cons, parkedIn_cons]
    omega
  | cons_right _ ih =>
    simp only [List.length_cons, parkedIn_cons]
    omega

/-- One more waiter on one of the walks. -/
theorem parkedIn_updateFirst_le (p : Walk → Bool) (q : Request) (ws : List Walk) :
    parkedIn (updateFirst p (fun (w : Walk) => { w with waiters := w.waiters ++ [q] }) ws) ≤ parkedIn ws + 1 := by
  induction ws with
  | nil => exact Nat.zero_le _
  | cons w ws ih =>
    unfold updateFirst
    split <;> simp only [parkedIn_cons, List.length_append, List.length_singleton] <;> omega

/-- A full cache has an unpinned entry, so that it loses one. -/
theorem length_makeRoom_lt {l : List TcEntry} (fits : l.length ≤ 32) (pins : l.countP (fun e => e.pinned) ≤ 24) :
    (makeRoom l).length < 32 := by
  unfold makeRoom
  split
  · next full =>
    have full : 32 ≤ l.length := full
    have unpinned : ∃ e ∈ l.reverse, (!e.pinned) = true := by
      by_contra none
      have all : l.countP (fun e => e.pinned) = l.length := List.countP_eq_length.2 fun e he => by
        by_contra h
        exact none ⟨e, List.mem_reverse.2 he, by simpa using h⟩
      omega
    obtain ⟨e, he, hp⟩ := unpinned
    rw [dropLast, List.length_reverse, List.length_eraseP_of_mem (p := fun e => !e.pinned) he hp, List.length_reverse]
    omega
  · next room => exact Nat.lt_of_not_le room

theorem capacityLaw_reset : CapacityLaw State.reset := by simp [CapacityLaw, State.reset, State.pins, State.parkedCount]

section Capacity

variable {s : State} (law : CapacityLaw s)

include law

/-! ### What may grow, and within which bounds -/

theorem CapacityLaw.withCache {tc : List TcEntry} (fits : tc.length ≤ 32) (pins : tc.countP (fun e => e.pinned) ≤ 24) :
    CapacityLaw { s with tc := tc } := by
  obtain ⟨-, -, rest⟩ := law
  exact ⟨fits, pins, rest⟩

theorem CapacityLaw.withWalks {ws : List Walk} (fits : ws.length ≤ 4) (parked : parkedIn ws ≤ 8) :
    CapacityLaw { s with walks := ws } := by
  obtain ⟨tc, pins, -, -, rest⟩ := law
  exact ⟨tc, pins, fits, (parkedCount_eq { s with walks := ws }).trans_le parked, rest⟩

theorem CapacityLaw.withEntries {pwq : List PostedWrite} {rdt : List ReadEntry} (writes : pwq.length ≤ 8) (reads : rdt.length ≤ 8) :
    CapacityLaw { s with pwq := pwq, rdt := rdt } := by
  obtain ⟨tc, pins, walks, parked, -, -⟩ := law
  exact ⟨tc, pins, walks, parked, writes, reads⟩

theorem CapacityLaw.narrow {ws : List Walk} (later : List.SublistForall₂ Walk.later ws s.walks) :
    CapacityLaw { s with walks := ws } := by
  obtain ⟨fewer, parked⟩ := length_parkedIn_of_later later
  obtain ⟨-, -, walks, pool, -⟩ := id law
  exact law.withWalks (fewer.trans walks) (parked.trans pool)

/-- Cache entries go. -/
theorem CapacityLaw.dropEntries (p : TcEntry → Bool) : CapacityLaw (s.dropEntries p) := by
  obtain ⟨fits, pins, -⟩ := id law
  exact law.withCache ((List.length_filter_le ..).trans fits) ((List.filter_sublist.countP_le).trans pins)

/-! ### The shared operations -/

theorem CapacityLaw.release (r : RequesterId) (x : LinkReply) : CapacityLaw (s.release r x) := by
  rw [release_frame]
  exact law.narrow (walksNarrow_map fun _ => List.filter_sublist).1

theorem CapacityLaw.orphan (p : Walk → Bool) (x : LinkReply) : CapacityLaw (s.orphan p x) := by
  rw [orphan_frame]
  refine law.narrow (sublistForall₂_filterMap fun w _ v hv => ?_)
  split at hv
  · exact (orphanWalk_later hv).1
  · cases hv
    exact w.later_refl

theorem CapacityLaw.capture (r : RequesterId) (f : FaultRecord) : CapacityLaw (s.capture r f) := by
  by_cases stops : (s.requesters.get r).stops
  · rw [capture_stopping s r f stops]
    exact CapacityLaw.release (s := s.setRequester r _) law r _
  · rw [capture_counting s r f stops]
    exact law

/-- A request is answered ABORT and its fault captured. -/
theorem CapacityLaw.aborted (q : Request) (x : LinkReply) (f : FaultRecord) :
    CapacityLaw ((s.respond q.requester q.tag x).capture q.requester f) :=
  CapacityLaw.capture (s := s.respond q.requester q.tag x) law q.requester f

theorem CapacityLaw.enter (a : ApIndex) (ord : ReadOrder) (m : MemAddr) (q : Request) : CapacityLaw (s.enter a ord m q) := by
  obtain ⟨-, -, -, -, writes, reads⟩ := id law
  obtain ⟨en, data, -, room, h⟩ | ⟨-, room, h⟩ | ⟨-, h⟩ | ⟨-, h⟩ := enter_cases s a ord m q <;> rw [h]
  · exact law.withEntries (pwq := s.pwq ++ [newWrite s.nextSeq a m q en data]) (by simpa using room) reads
  · exact law.withEntries (rdt := s.rdt ++ [newRead s.nextSeq a ord m q (s.holdingWrites ord q.requester m)]) writes
      (by simpa using room)
  · exact law
  · exact law

theorem CapacityLaw.park (a : ApIndex) (gen : Generation) (page : Nat) (q : Request) : CapacityLaw (s.park a gen page q) := by
  unfold State.park
  split
  · next room =>
    obtain ⟨-, -, walks, -⟩ := id law
    exact law.withWalks (by simpa using walks) ((parkedIn_updateFirst_le _ q s.walks).trans room)
  · exact law

theorem CapacityLaw.miss (a : ApIndex) (gen : Generation) (page : Nat) (mapBase : MemAddr) (q : Request) :
    CapacityLaw (s.miss a gen page mapBase q) := by
  unfold State.miss
  split
  · exact law.park a gen page q
  · split
    · next room =>
      obtain ⟨-, -, -, parked, -⟩ := id law
      have started : CapacityLaw { s with walks := s.walks ++ [newWalk a gen page mapBase] } :=
        law.withWalks (by simpa using room) (by rw [parkedIn_append]; exact parked)
      exact started.park a gen page q
    · exact law

theorem CapacityLaw.mark (n : SlotId) (pw : PostedWrite → Bool) (pr : ReadEntry → Bool) : CapacityLaw (s.mark n pw pr) := by
  obtain ⟨-, -, -, -, writes, reads⟩ := id law
  exact law.withEntries (by simpa using writes) (by simpa using reads)

theorem CapacityLaw.complete (n : SlotId) : CapacityLaw (s.complete n) := by
  rw [complete_frame]
  exact law

theorem CapacityLaw.waitOrComplete (n : SlotId) : CapacityLaw (s.waitOrComplete n) := by
  unfold State.waitOrComplete
  split
  · exact law
  · exact law.complete n

theorem CapacityLaw.tellAll (lost : Bool) (marks : MarkSet) (ns : List SlotId) : CapacityLaw (s.tellAll lost marks ns) := by
  rw [tellAll_frame]
  exact law

/-! ### Departures and grants -/

theorem CapacityLaw.departWrite (p : PortTagId) (o : PortOutcome) : CapacityLaw (s.departWrite p o) := by
  obtain ⟨-, -, -, -, writes, reads⟩ := id law
  unfold State.departWrite
  split
  · exact law
  · next e _ =>
    have left : CapacityLaw { s with pwq := s.pwq.eraseP (PostedWrite.holdsTag p), rdt := s.rdt.map (freeRead e.seq) } :=
      law.withEntries ((List.length_eraseP_le).trans writes) (by simpa using reads)
    dsimp only
    split
    · exact left.tellAll _ _ _
    · exact (left.capture _ _).tellAll _ _ _

theorem CapacityLaw.departRead (p : PortTagId) (o : PortOutcome) : CapacityLaw (s.departRead p o) := by
  obtain ⟨-, -, -, -, writes, reads⟩ := id law
  unfold State.departRead
  split
  · exact law
  · next d _ =>
    have left : CapacityLaw { s with rdt := s.rdt.eraseP (ReadEntry.holdsTag p) } :=
      law.withEntries writes ((List.length_eraseP_le).trans reads)
    have answered : CapacityLaw (State.answerRead { s with rdt := s.rdt.eraseP (ReadEntry.holdsTag p) } d o) := by
      rw [answerRead_frame]
      exact left
    dsimp only
    split
    · exact answered.tellAll _ _ _
    · exact (answered.capture _ _).tellAll _ _ _

theorem CapacityLaw.endPreloadOf (w : Walk) (o : PreloadEnd) : CapacityLaw (s.endPreloadOf w o) := by
  rw [endPreloadOf_frame]
  exact law

/-- The new entry takes the place of a victim in a full cache, and is pinned only while fewer than 24 are. -/
theorem CapacityLaw.install (w : Walk) (pe : PageEntry) : CapacityLaw (s.install w pe) := by
  obtain ⟨fits, pins, -⟩ := id law
  have room := length_makeRoom_lt fits pins
  have fewer : (makeRoom s.tc).countP (fun e => e.pinned) ≤ s.tc.countP fun e => e.pinned := (makeRoom_sublist s.tc).countP_le
  have granted := pinGranted_iff s w
  refine law.withCache (tc := s.installed w pe :: makeRoom s.tc) room ?_
  rw [List.countP_cons]
  split
  · next pinned =>
    obtain ⟨-, below⟩ := granted.1 pinned
    omega
  · exact fewer.trans pins

theorem CapacityLaw.resumeWaiter (pe : PageEntry) (w : Walk) (q : Request) : CapacityLaw (State.resumeWaiter pe w q s) := by
  unfold State.resumeWaiter
  split
  · exact law.enter _ _ _ _
  · exact law.aborted _ _ _

theorem CapacityLaw.removeWalk (p : PortTagId) : CapacityLaw (s.removeWalk p) :=
  law.narrow (sublistForall₂_of_sublist Walk.later_refl List.eraseP_sublist)

/-- Turns that each keep the law keep it together, and the walk's end with them: a waiter leaves the park pool at its turn. -/
theorem CapacityLaw.finished {p : PortTagId} {finish : Walk → Request → State → State}
    (turn : ∀ w q u, CapacityLaw u → CapacityLaw (finish w q u)) (k : Nat) :
    CapacityLaw ((State.finishWaiters p finish k s).removeWalk p) :=
  (finishWaiters_keeps CapacityLaw
    (fun _ w q _ kept found waiters => turn w q _ (kept.narrow (walksNarrow_pop found waiters).1)) k s law).removeWalk p

theorem CapacityLaw.completeWalk (p : PortTagId) (w : Walk) (o : PortOutcome) : CapacityLaw (s.completeWalk p w o) := by
  have resumed : ∀ pe w q u, CapacityLaw u → CapacityLaw (State.resumeWaiter pe w q u) := fun pe w q _ h => h.resumeWaiter pe w q
  have noPage : ∀ w q u, CapacityLaw u → CapacityLaw (State.noPageWaiter w q u) := fun _ q _ h => h.aborted q _ _
  have failed : ∀ qual w q u, CapacityLaw u → CapacityLaw (State.walkErrorWaiter qual w q u) := fun _ _ q _ h => h.aborted q _ _
  cases o with
  | ok data =>
    have used : CapacityLaw (s.useFree Config.pageEntryBytes data) := law
    unfold State.completeWalk
    dsimp only
    split
    · exact ((used.install w _).endPreloadOf w _).finished (resumed _) _
    · exact (used.endPreloadOf w _).finished noPage _
  | error => exact (law.endPreloadOf w _).finished (failed .error) _
  | timeout => exact (law.endPreloadOf w _).finished (failed .timeout) _

theorem CapacityLaw.departWalk (p : PortTagId) (o : PortOutcome) : CapacityLaw (s.departWalk p o) := by
  unfold State.departWalk
  split
  · exact law
  · split
    · exact law.removeWalk p
    · exact law.completeWalk p _ o

theorem CapacityLaw.ownerTakes (p : PortTagId) (k : PortKind) (o : PortOutcome) : CapacityLaw (s.ownerTakes p k o) := by
  cases k with
  | walk => exact law.departWalk p o
  | write => exact law.departWrite p o
  | read => exact law.departRead p o

/-- A grant changes the state of one entry. -/
theorem CapacityLaw.arbitrate (p : PortTagId) : CapacityLaw (s.arbitrate p) := by
  obtain ⟨-, -, -, -, writes, reads⟩ := id law
  have tagged : ∀ w : Walk, Walk.later { w with state := .issued p } w := fun _ =>
    ⟨⟨rfl, rfl, rfl, rfl⟩, .refl _, by simp, .inl ⟨rfl, rfl⟩⟩
  have walk : ∀ w, CapacityLaw (s.issueWalk p w) := fun _ =>
    law.narrow (ws := updateFirst Walk.waits (fun (w : Walk) => { w with state := .issued p }) s.walks)
      (sublistForall₂_updateFirst Walk.later_refl (fun w _ => tagged w) s.walks)
  have write : ∀ e, CapacityLaw (s.issueWrite p e) := fun _ =>
    law.withEntries (pwq := updateFirst PostedWrite.isQueued (fun (e : PostedWrite) => { e with state := .issued p }) s.pwq)
      (by simpa using writes) reads
  have read : ∀ d, CapacityLaw (s.issueRead p d) := fun _ =>
    law.withEntries (rdt := updateFirst ReadEntry.isReady (fun (d : ReadEntry) => { d with state := .issued p }) s.rdt)
      writes (by simpa using reads)
  obtain ⟨w, -, h⟩ | ⟨-, e, -, ⟨h, -⟩ | ⟨h, -⟩⟩ | ⟨-, d, -, ⟨h, -⟩ | ⟨h, -⟩⟩ | h := arbitrate_cases s p <;> rw [h]
  · exact walk w
  · exact write e
  · exact write e
  · exact read d
  · exact read d
  · exact law

/-! ### Arrivals -/

theorem CapacityLaw.translate (a : ApIndex) (g : Grant) (q : Request) : CapacityLaw (s.translate a g q) := by
  unfold State.translate
  split
  · exact law.enter _ _ _ _
  · dsimp only
    split
    · obtain ⟨fits, pins, -⟩ := id law
      have perm := fun p => toHead_perm p s.tc
      have headed : ∀ p, CapacityLaw { s with tc := toHead p s.tc } := fun p =>
        law.withCache ((perm p).length_eq ▸ fits) ((perm p).countP_eq _ ▸ pins)
      unfold State.hit
      split
      · exact (headed _).enter _ _ _ _
      · exact (headed _).aborted _ _ _
    · exact law.miss _ _ _ _ _

theorem CapacityLaw.checkArrival (q : Request) : CapacityLaw (s.checkArrival q) := by
  unfold State.checkArrival
  split
  · split
    · unfold State.checkAdmission
      split
      · exact law
      · split
        · exact law.aborted _ _ _
        · split
          · exact law.translate _ _ _
          · exact law.aborted _ _ _
    · exact law
  · exact law.aborted _ _ _

/-! ### The commands -/

theorem CapacityLaw.takeOf {c : Option Command} {body : SlotId → State} (taken : ∀ n, CapacityLaw (body n)) :
    CapacityLaw (s.takeOf c body) := by
  obtain ⟨n, -, -, h⟩ | h := takeOf_cases s c body <;> rw [h]
  · exact taken n
  · exact law

theorem CapacityLaw.takeRequester {c : Option Command} {body : SlotId → RequesterId → State}
    (taken : ∀ n r, CapacityLaw (body n r)) : CapacityLaw (s.takeOf c fun n => s.takeRequester n (body n)) :=
  law.takeOf fun n => by
    unfold State.takeRequester
    split
    · exact law
    · exact taken n _

/-- The collections are no matter of AP_SET. -/
theorem CapacityLaw.takeApSet (n : SlotId) : CapacityLaw (s.takeApSet n) := by
  unfold State.takeApSet State.grantAperture
  dsimp only
  repeat' split
  all_goals exact law

/-- A command that drains an aperture drops cache entries, orphans walks, marks entries, and waits or completes. -/
theorem CapacityLaw.drains (n : SlotId) (e : TcEntry → Bool) (p : Walk → Bool) (x : LinkReply) (pw : PostedWrite → Bool)
    (pr : ReadEntry → Bool) (v v' : Word) :
    CapacityLaw ((((((s.dropEntries e).orphan p x).mark n pw pr).writeWord n 5 v).writeWord n 6 v').waitOrComplete n) := by
  have marked := ((law.dropEntries e).orphan p x).mark n pw pr
  have written : CapacityLaw (((((s.dropEntries e).orphan p x).mark n pw pr).writeWord n 5 v).writeWord n 6 v') := marked
  exact written.waitOrComplete n

theorem CapacityLaw.takeApRetire (n : SlotId) : CapacityLaw (s.takeApRetire n) := by
  unfold State.takeApRetire
  split
  · exact law
  · next a _ =>
    split
    · exact law
    · exact law
    · next g _ =>
      have retiring : CapacityLaw (s.setAperture a { generation := (s.apertures.get a).generation, life := .retiring g }) := law
      split
      · exact retiring.drains n _ _ _ _ _ _ _
      · exact law

theorem CapacityLaw.takeApInvalidate (n : SlotId) : CapacityLaw (s.takeApInvalidate n) := by
  unfold State.takeApInvalidate
  dsimp only
  split
  · exact law
  · split
    · split
      · exact law.drains n _ _ _ _ _ _ _
      · exact law
    · exact law

theorem CapacityLaw.takeFlush (n : SlotId) : CapacityLaw (s.takeFlush n) := by
  have written : CapacityLaw ((s.mark n (fun _ => true) fun _ => false).writeWord n 5 0) := law.mark n _ _
  exact written.waitOrComplete n

theorem CapacityLaw.enable (n : SlotId) (r : RequesterId) : CapacityLaw (s.enable n r) := by
  unfold State.enable
  dsimp only
  split <;> exact law

theorem CapacityLaw.disable (n : SlotId) (r : RequesterId) : CapacityLaw (s.disable n r) := by
  have disabled : CapacityLaw (s.setRequester r { s.requesters.get r with state := .disabled }) := law
  unfold State.disable
  dsimp only
  split
  · exact disabled.release r _
  · exact disabled

theorem CapacityLaw.drainRequester (n : SlotId) (r : RequesterId) : CapacityLaw (s.drainRequester n r) :=
  (law.mark n _ _).waitOrComplete n

theorem CapacityLaw.halt (n : SlotId) (r : RequesterId) : CapacityLaw (s.halt n r) := by
  have halting : CapacityLaw (s.setRequester r { s.requesters.get r with state := .halting }) := law
  unfold State.halt
  dsimp only
  split
  · exact (halting.release r _).drainRequester n r
  · exact halting.drainRequester n r
  all_goals exact law

theorem CapacityLaw.resume (n : SlotId) (r : RequesterId) : CapacityLaw (s.resume n r) := by
  unfold State.resume
  dsimp only
  split <;> exact law

/-- A 25th pin is refused, and an entry that is pinned already takes no new one. -/
theorem CapacityLaw.preloadPresent {p : TcEntry → Bool} {e : TcEntry} (found : s.tc.find? p = some e) (n : SlotId) :
    CapacityLaw (s.preloadPresent n p e) := by
  obtain ⟨fits, pins, -⟩ := id law
  have perm : (e :: s.tc.eraseP p).Perm s.tc := by
    obtain ⟨l₁, l₂, split, before, isFor⟩ := first_of_find found
    rw [split, eraseP_split p before isFor]
    exact List.perm_middle.symm
  unfold State.preloadPresent
  dsimp only
  split
  · exact law
  · next room =>
    refine law.withCache (tc := { e with pinned := e.pinned || slotFlag (s.slots.get n) } :: s.tc.eraseP p)
      (perm.length_eq.trans_le fits) ?_
    by_cases pinning : slotFlag (s.slots.get n) = true ∧ e.pinned = false
    · have below : s.pins < 24 := Nat.lt_of_not_le fun full => room ⟨pinning.1, pinning.2, full⟩
      have others : (s.tc.eraseP p).countP (fun e => e.pinned) ≤ s.pins := List.eraseP_sublist.countP_le
      rw [List.countP_cons]
      split <;> omega
    · have kept : (e.pinned || slotFlag (s.slots.get n)) = e.pinned := by
        cases pinned : e.pinned <;> simp_all
      rw [kept]
      exact (perm.countP_eq _).trans_le pins

/-- A preload joins a walk, or starts one in a free slot. -/
theorem CapacityLaw.preloadWalk (n : SlotId) (a : ApIndex) (gen : Generation) (page : Nat) (mapBase : MemAddr) :
    CapacityLaw (s.preloadWalk n a gen page mapBase) := by
  obtain ⟨-, -, walks, parked, -⟩ := id law
  unfold State.preloadWalk
  dsimp only
  split
  · refine law.withWalks (ws := updateFirst _ _ s.walks) (by simpa using walks) ?_
    rw [parkedIn, map_updateFirst]
    · exact parked
    · exact fun _ => rfl
  · split
    · next room =>
      exact law.withWalks (ws := s.walks ++ [_]) (by simpa using room) (by rw [parkedIn_append]; exact parked)
    · exact law

theorem CapacityLaw.takeTcPreload (n : SlotId) : CapacityLaw (s.takeTcPreload n) := by
  unfold State.takeTcPreload
  dsimp only
  split
  · exact law
  · split
    · split
      · exact law
      · split
        · split
          · next found => exact law.preloadPresent found n
          · exact law.preloadWalk n _ _ _ _
        · exact law
    · exact law

theorem CapacityLaw.takeTcUnpin (n : SlotId) : CapacityLaw (s.takeTcUnpin n) := by
  obtain ⟨fits, pins, -⟩ := id law
  unfold State.takeTcUnpin
  dsimp only
  split
  · exact law
  · split
    · exact law.withCache (by simpa using fits) ((countP_updateFirst_le (fun e pinned => by simp [clearPin] at pinned) s.tc).trans pins)
    · exact law

theorem CapacityLaw.completeIf (n : SlotId) (c : Command) : CapacityLaw (s.completeIf n c) := by
  unfold State.completeIf
  split
  · exact law.complete n
  · exact law

theorem CapacityLaw.hostWriteAt (w : WindowWord) (v : Word) : CapacityLaw (s.hostWriteAt w v) := by
  obtain h | h := hostWriteAt_cases s w v <;> rw [h]
  · exact capacityLaw_reset
  · exact law

theorem CapacityLaw.hostWrite (w : WindowWord) (v : Word) : CapacityLaw (s.hostWrite w v) := by
  unfold State.hostWrite
  split
  · exact law
  · exact law.hostWriteAt w v

theorem CapacityLaw.hostAccess (off : Nat) (bytes : List Byte) : CapacityLaw (s.hostAccess off bytes) := by
  unfold State.hostAccess
  split
  · exact law
  · split
    · exact law.hostWriteAt _ _
    · split
      · exact law
      · exact law

theorem CapacityLaw.exec {c : Instr} {t : State} (h : exec c s = .next t) : CapacityLaw t := by
  cases c with
  | arrival q =>
    have busy : CapacityLaw (s.setLinkTag q.requester q.tag .busy) := law
    cases h
    split
    · exact law
    · split
      · exact law.capture _ _
      · exact busy.checkArrival q
  | linkReset =>
    obtain ⟨-, -, -, -, writes, reads⟩ := id law
    cases h
    have emptied := law.narrow (walksNarrow_map (f := fun _ => []) fun w => List.nil_sublist w.waiters).1
    exact emptied.withEntries writes (by simpa using reads)
  | partReset cause => cases cause <;> cases h <;> exact capacityLaw_reset
  | answer p a =>
    have freed : CapacityLaw (s.setPortTag p .free) := law
    cases h
    split
    · exact law
    · exact law
    · exact freed.ownerTakes p _ _
  | expiry p =>
    have quarantined : CapacityLaw (s.setPortTag p .quarantined) := law
    cases h
    split
    · split
      · exact quarantined.ownerTakes p _ _
      · exact law
    · exact law
    · exact law
  | grant p =>
    cases h
    split
    · exact law.arbitrate p
    · exact law
  | apSet => cases h; exact law.takeOf law.takeApSet
  | apRetire => cases h; exact law.takeOf law.takeApRetire
  | apInvalidate => cases h; exact law.takeOf law.takeApInvalidate
  | queryAperture =>
    cases h
    refine law.takeOf fun n => ?_
    unfold State.takeQueryAperture
    split <;> exact law
  | reqEnable => cases h; exact law.takeRequester law.enable
  | reqDisable => cases h; exact law.takeRequester law.disable
  | reqHalt => cases h; exact law.takeRequester law.halt
  | reqResume => cases h; exact law.takeRequester law.resume
  | faultClear => cases h; exact law.takeRequester fun _ _ => law
  | queryRequester => cases h; exact law.takeRequester fun _ _ => law
  | tcPreload => cases h; exact law.takeOf law.takeTcPreload
  | tcUnpin => cases h; exact law.takeOf law.takeTcUnpin
  | queryTc =>
    cases h
    refine law.takeOf fun n => ?_
    unfold State.takeQueryTc
    dsimp only
    split <;> exact law
  | flush => cases h; exact law.takeOf law.takeFlush
  | badOp => cases h; exact law.takeOf fun _ => law
  | apRetireCompletion n => cases h; exact law.completeIf n _
  | apInvalidateCompletion n => cases h; exact law.completeIf n _
  | flushCompletion n => cases h; exact law.completeIf n _
  | reqHaltCompletion n => cases h; exact law.completeIf n _
  | tcPreloadCompletion n o =>
    cases h
    split
    · rw [endPreload_frame]
      exact law
    · exact law
  | start n v => cases h; exact law.hostWrite _ _
  | ack n v => cases h; exact law.hostWrite _ _
  | slotWordWrite n k v => cases h; exact law.hostWrite _ _
  | linkEnable v => cases h; exact law.hostWrite _ _
  | softReset v => cases h; exact law.hostWrite _ _
  | intStatusWrite v => cases h; exact law.hostWrite _ _
  | intEnableWrite v => cases h; exact law.hostWrite _ _
  | responseLimitWrite v => cases h; exact law.hostWrite _ _
  | registerWrite off bytes => cases h; exact law.hostAccess _ _
  | resetNRelease => cases h; exact law
  | word7Action3 n v => cases h; exact law.hostWrite _ _

end Capacity

/-- Settles O46: whatever grows has been seen to have room, and a full cache has a victim, since at most 24 of its 32 entries are
pinned. -/
theorem everyStepKeepsTheCapacities : Obligations.EveryStepKeepsTheCapacities :=
  keptByStep_of_exec (fun _ _ law => law) (fun _ law => law) fun _ _ _ law h => law.exec h

end Sys2Proof.Machine

/-! ## The commands of the translation cache -/

namespace Sys2Proof.Machine

/-! ### TC_PRELOAD (R76, R79 to R81, R93) -/

section Preload

variable {s : State} {n : SlotId} {a : ApIndex}

theorem execTcPreload_taken (take : s.takes n (some .tcPreload)) : exec .tcPreload s = .next (s.takeTcPreload n) :=
  congrArg _ (takeOf_taken s.takeTcPreload take.1 take.2)

variable (aperture : slotAperture (s.slots.get n) = some a)
include aperture

theorem takeTcPreload_notLive (notLive : ∀ g, (s.apertures.get a).life ≠ .live g) :
    s.takeTcPreload n = s.withFailed n .notLive := by
  unfold State.takeTcPreload
  dsimp only
  rw [aperture]
  dsimp only
  split
  · exact absurd ‹_› (notLive _)
  · rfl

variable {g : Grant} (live : (s.apertures.get a).life = .live g)
include live

theorem takeTcPreload_direct {b : MemAddr} (direct : g.base = .direct b) : s.takeTcPreload n = s.withFailed n .notMapped := by
  simp [State.takeTcPreload, aperture, live, direct, failSlot_eq]

variable {b : MemAddr} (mapped : g.base = .mapped b)
include mapped

theorem takeTcPreload_outOfRange (beyond : g.pages ≤ (slotWord (s.slots.get n) 1).toNat) :
    s.takeTcPreload n = s.withFailed n .range := by
  simp [State.takeTcPreload, aperture, live, mapped, beyond, failSlot_eq]

variable (inPages : (slotWord (s.slots.get n) 1).toNat < g.pages)
include inPages

theorem takeTcPreload_cached {e : TcEntry}
    (found : s.tc.find? (TcEntry.isFor a (s.apertures.get a).generation (slotWord (s.slots.get n) 1).toNat) = some e) :
    s.takeTcPreload n =
      s.preloadPresent n (TcEntry.isFor a (s.apertures.get a).generation (slotWord (s.slots.get n) 1).toNat) e := by
  simp [State.takeTcPreload, aperture, live, mapped, inPages, found]

theorem takeTcPreload_uncached
    (none : s.tc.find? (TcEntry.isFor a (s.apertures.get a).generation (slotWord (s.slots.get n) 1).toNat) = none) :
    s.takeTcPreload n = s.preloadWalk n a (s.apertures.get a).generation (slotWord (s.slots.get n) 1).toNat b := by
  simp [State.takeTcPreload, aperture, live, mapped, inPages, none]

end Preload

theorem find_of_first {α : Type} {p : α → Bool} {l l₁ l₂ : List α} {x : α} (first : FirstOf p l l₁ x l₂) :
    l.find? p = some x := by
  obtain ⟨rfl, before, found⟩ := first
  exact find_split p before found

/-- The entry found moves to the head, or its pin is refused. -/
theorem preloadPresent_split {s : State} {p : TcEntry → Bool} {l₁ l₂ : List TcEntry} {e : TcEntry}
    (first : FirstOf p s.tc l₁ e l₂) (n : SlotId) :
    s.preloadPresent n p e =
      if slotFlag (s.slots.get n) = true ∧ e.pinned = false ∧ 24 ≤ s.pins then s.withFailed n .pinLimit
      else { s with tc := { e with pinned := e.pinned || slotFlag (s.slots.get n) } :: (l₁ ++ l₂) }.withDone n
        ((s.slots.get n).wordsWith 5 1) := by
  obtain ⟨split, before, found⟩ := first
  unfold State.preloadPresent
  dsimp only
  rw [State.writeWord, doneSlot_setSlot, split, eraseP_split p before found]
  rfl

/-- Settles O29: the checks in their order, up to the entry that the lookup finds. -/
theorem tcPreloadOfACachedPageEndsAtItsTake : Obligations.TcPreloadOfACachedPageEndsAtItsTake := by
  intro s n a take aperture
  rw [execTcPreload_taken take]
  refine ⟨fun notLive => congrArg _ (takeTcPreload_notLive aperture notLive), fun g live =>
    ⟨fun b direct => congrArg _ (takeTcPreload_direct aperture live direct), fun b mapped =>
      ⟨fun beyond => congrArg _ (takeTcPreload_outOfRange aperture live mapped beyond), fun inPages l₁ e l₂ first => ?_⟩⟩⟩
  have found := find_of_first first
  rw [takeTcPreload_cached aperture live mapped inPages found]
  exact congrArg _ (preloadPresent_split first n)

/-- The preload joins the walk of its page. -/
theorem preloadWalk_joins {s : State} {a : ApIndex} {gen : Generation} {page : Nat} {l₁ l₂ : List Walk} {w : Walk}
    (first : FirstOf (Walk.isFor a gen page) s.walks l₁ w l₂) (n : SlotId) (mapBase : MemAddr) :
    s.preloadWalk n a gen page mapBase = { s with
      walks := l₁ ++ { w with preload := some (n, slotFlag (s.slots.get n)) } :: l₂
      slots := s.slots.set n.val { s.slots.get n with state := .running } n.isLt } := by
  obtain ⟨split, before, isFor⟩ := first
  have walked : s.walks.any (Walk.isFor a gen page) = true := by simp [split, isFor]
  unfold State.preloadWalk
  dsimp only
  rw [if_pos walked, split, updateFirst_split _ _ before isFor]
  rfl

/-- Without a walk to join, the preload starts one in a free slot or fails. -/
theorem preloadWalk_unwalked {s : State} {a : ApIndex} {gen : Generation} {page : Nat}
    (unwalked : ∀ w ∈ s.walks, Walk.isFor a gen page w = false) (n : SlotId) (mapBase : MemAddr) :
    s.preloadWalk n a gen page mapBase =
      if s.walks.length < 4 then { s with
        walks := s.walks ++ [{ newWalk a gen page mapBase with preload := some (n, slotFlag (s.slots.get n)) }]
        slots := s.slots.set n.val { s.slots.get n with state := .running } n.isLt }
      else s.withFailed n .walkBusy := by
  have none : ¬s.walks.any (Walk.isFor a gen page) = true := by simpa using unwalked
  unfold State.preloadWalk
  dsimp only
  rw [if_neg none]
  rfl

/-- Settles O30: the lookup finds no entry, so that the preload goes to the walker. -/
theorem tcPreloadOfAnUncachedPageWaitsOnAWalk : Obligations.TcPreloadOfAnUncachedPageWaitsOnAWalk := by
  intro s n a g mb page take aperture live mapped isPage inPages uncached
  subst isPage
  rw [execTcPreload_taken take, takeTcPreload_uncached aperture live mapped inPages (find_none _ uncached)]
  refine ⟨fun l₁ w l₂ first => congrArg _ (preloadWalk_joins first n mb), fun unwalked => ?_⟩
  rw [preloadWalk_unwalked unwalked n mb]
  exact ⟨fun full => congrArg _ (if_neg (Nat.not_lt.2 full)), fun room => congrArg _ (if_pos room)⟩

/-! ### TC_UNPIN (R84) -/

theorem TcEntry.isAt_iff {a : ApIndex} {page : Nat} {e : TcEntry} :
    TcEntry.isAt a page e = true ↔ e.aperture = a ∧ e.page = page := by simp [TcEntry.isAt]

theorem TcEntry.isAt_eq_false {a : ApIndex} {page : Nat} {e : TcEntry} :
    TcEntry.isAt a page e = false ↔ ¬(e.aperture = a ∧ e.page = page) := by
  rw [← TcEntry.isAt_iff, Bool.not_eq_true]

/-- Settles O31: the first entry at the aperture and page keeps its place. -/
theorem tcUnpinClearsThePinInPlace : Obligations.TcUnpinClearsThePinInPlace := by
  intro s n take
  have taken : exec .tcUnpin s = .next (s.takeTcUnpin n) := congrArg _ (takeOf_taken s.takeTcUnpin take.1 take.2)
  rw [taken, State.takeTcUnpin]
  refine ⟨fun bad => ?_, fun a aperture => ⟨fun uncached => ?_, fun l₁ e l₂ split before isAperture isPage => ?_⟩⟩
  · rw [bad]
    rfl
  · rw [aperture]
    have none : ¬s.tc.any (TcEntry.isAt a (slotWord (s.slots.get n) 1).toNat) = true := by
      simpa using fun e he => TcEntry.isAt_eq_false.2 (uncached e he)
    exact congrArg _ (if_neg none)
  · rw [aperture]
    have isAt : TcEntry.isAt a (slotWord (s.slots.get n) 1).toNat e = true := TcEntry.isAt_iff.2 ⟨isAperture, isPage⟩
    have cached : s.tc.any (TcEntry.isAt a (slotWord (s.slots.get n) 1).toNat) = true := by simp [split, isAt]
    dsimp only
    rw [if_pos cached, split, updateFirst_split _ _ (fun x hx => TcEntry.isAt_eq_false.2 (before x hx)) isAt]
    rfl

/-! ### QUERY_TC (R85) -/

/-- A cached page is one of its aperture's pages, of which there are at most 65,536. -/
theorem page_lt_of_mapAddr {s : State} (apertures : ApertureLaw s) {a : ApIndex} {gen : Generation} {page : Nat}
    (isPage : (s.mapAddr a gen page).isSome = true) : page < 2 ^ 16 := by
  obtain ⟨x, hx⟩ := Option.isSome_iff_exists.1 isPage
  obtain ⟨g, m, live, -, -, inPages, -⟩ := mapAddr_eq_some.1 hx
  obtain ⟨-, -, fits⟩ := apertures
  obtain ⟨-, -, pages, -⟩ := fits a g (grantOf_of_live live)
  omega

/-- The two counts of word 1, as fields of their widths. -/
theorem cacheReport_head {entries pins : Nat} (fits : entries ≤ 32) (most : pins ≤ 24) :
    natAt 0 entries ||| natAt 8 pins = fieldAt 0 (BitVec.ofNat 6 entries) ||| fieldAt 8 (BitVec.ofNat 5 pins) := by
  rw [natAt_eq_fieldAt 6 0 (n := entries) (by omega) (by omega), natAt_eq_fieldAt 5 8 (n := pins) (by omega) (by omega)]

/-- Word 1 of the report of an entry, field by field. -/
theorem cacheReport_w1 {entries pins : Nat} (fits : entries ≤ 32) (most : pins ≤ 24) (e : TcEntry) :
    (cacheReport entries pins (some e)).w1 =
      fieldAt 0 (BitVec.ofNat 6 entries) ||| fieldAt 8 (BitVec.ofNat 5 pins) ||| fieldAt 17 (BitVec.ofBool e.pinned) |||
        fieldAt 18 (BitVec.ofBool e.readable) ||| fieldAt 19 (BitVec.ofBool e.writable) |||
        fieldAt 24 (BitVec.ofNat 6 e.aperture.val) := by
  simp only [cacheReport, cacheReport_head fits most, natAt_eq_fieldAt 6 24 e.aperture.isLt (by omega), bitAt]

/-- The report of a position that holds no entry: the counts and NONE. -/
theorem cacheReport_of_none {entries pins : Nat} (fits : entries ≤ 32) (most : pins ≤ 24) :
    cacheReport entries pins none =
      { w1 := fieldAt 0 (BitVec.ofNat 6 entries) ||| fieldAt 8 (BitVec.ofNat 5 pins) ||| fieldAt 16 (BitVec.ofBool true)
        w2 := 0, w3 := 0, w4 := 0, w5 := 0, w6 := 0 } := by
  simp only [cacheReport, cacheReport_head fits most, bitAt]

/-- The entry fields of word 1 read zero where there is no entry. -/
theorem cacheReport_none_fields {entries pins : Nat} (fits : entries ≤ 32) (most : pins ≤ 24) :
    (cacheReport entries pins none).w1.extractLsb' 17 3 = 0 ∧ (cacheReport entries pins none).w1.extractLsb' 24 6 = 0 := by
  simp (disch := omega) only [cacheReport_of_none fits most, BitVec.extractLsb'_or, extract_fieldAt_beside]
  simp

/-- The fields of word 1 that every report has read back. -/
theorem cacheReport_common {entries pins : Nat} (fits : entries ≤ 32) (most : pins ≤ 24) (e : Option TcEntry) :
    ((cacheReport entries pins e).w1.extractLsb' 0 6).toNat = entries ∧
      ((cacheReport entries pins e).w1.extractLsb' 8 5).toNat = pins ∧
      (cacheReport entries pins e).w1.getLsbD 16 = e.isNone := by
  rw [getLsbD_eq_extract]
  cases e with
  | none =>
    simp (disch := omega) only [cacheReport_of_none fits most, BitVec.extractLsb'_or, extract_fieldAt, extract_fieldAt_beside]
    simp
    omega
  | some e =>
    simp (disch := omega) only [cacheReport_w1 fits most, BitVec.extractLsb'_or, extract_fieldAt, extract_fieldAt_beside]
    simp
    omega

/-- The fields that an entry adds read back. -/
theorem cacheReport_entry {entries pins : Nat} (fits : entries ≤ 32) (most : pins ≤ 24) {e : TcEntry} (isPage : e.page < 2 ^ 16) :
    (cacheReport entries pins (some e)).w1.getLsbD 17 = e.pinned ∧
      (cacheReport entries pins (some e)).w1.getLsbD 18 = e.readable ∧
      (cacheReport entries pins (some e)).w1.getLsbD 19 = e.writable ∧
      ((cacheReport entries pins (some e)).w1.extractLsb' 24 6).toNat = e.aperture.val ∧
      (cacheReport entries pins (some e)).w2.extractLsb' 0 16 = e.generation ∧
      ((cacheReport entries pins (some e)).w2.extractLsb' 16 16).toNat = e.page ∧
      (cacheReport entries pins (some e)).w3.extractLsb' 0 28 = e.frame := by
  have w2 : (cacheReport entries pins (some e)).w2 = fieldAt 0 e.generation ||| fieldAt 16 (BitVec.ofNat 16 e.page) := by
    rw [← natAt_eq_fieldAt 16 16 isPage (by omega)]
    rfl
  have w3 : (cacheReport entries pins (some e)).w3 = fieldAt 0 e.frame := rfl
  simp only [getLsbD_eq_extract]
  simp (disch := omega) only [cacheReport_w1 fits most, w2, w3, BitVec.extractLsb'_or, extract_fieldAt, extract_fieldAt_beside]
  simp
  omega

theorem execQueryTc_taken {s : State} {n : SlotId} (take : s.takes n (some .queryTc))
    (position : (slotIndex (s.slots.get n)).toNat ≤ 31) :
    exec .queryTc s = .next (s.withDone n (withReport (s.slots.get n)
      (cacheReport s.tc.length s.pins s.tc[(slotIndex (s.slots.get n)).toNat]?)).words) := by
  have taken : exec .queryTc s = .next (s.takeQueryTc n) := congrArg _ (takeOf_taken s.takeQueryTc take.1 take.2)
  rw [taken, State.takeQueryTc]
  rw [if_pos (Nat.lt_succ_of_le position), doneSlot_setSlot]

/-- Settles O32: the report, word by word. -/
theorem queryTcReportsOnePosition : Obligations.QueryTcReportsOnePosition := by
  unfold Obligations.QueryTcReportsOnePosition
  intro s n k capacity apertures translations take isPosition position
  subst isPosition
  obtain ⟨fits, most, -⟩ := capacity
  obtain ⟨cached, -⟩ := translations
  obtain ⟨entries, pins, none⟩ := cacheReport_common fits most s.tc[(slotIndex (s.slots.get n)).toNat]?
  have rest : ∀ e, (cacheReport s.tc.length s.pins e).w4 = 0 ∧ (cacheReport s.tc.length s.pins e).w5 = 0 ∧
      (cacheReport s.tc.length s.pins e).w6 = 0 := fun e => by cases e <;> exact ⟨rfl, rfl, rfl⟩
  obtain ⟨w4, w5, w6⟩ := rest s.tc[(slotIndex (s.slots.get n)).toNat]?
  refine ⟨_, execQueryTc_taken take position, rfl, entries, pins, none.trans ?_, w4, w5, w6, fun beyond => ?_, fun held => ?_⟩
  · rw [Bool.eq_iff_iff]
    simp
  · obtain ⟨flags, index⟩ := cacheReport_none_fields fits most
    rw [List.getElem?_eq_none beyond]
    exact ⟨flags, index, rfl, rfl⟩
  · rw [List.getElem?_eq_getElem held]
    exact cacheReport_entry fits most (page_lt_of_mapAddr apertures (cached _ (List.getElem_mem held)))

end Sys2Proof.Machine

/-! ## The end of a walk without waiters -/

namespace Sys2Proof.Machine

theorem withPreloadEnd_withWalks (s : State) (ws : List Walk) (w : Walk) (e : TcEntry) :
    { s with walks := ws }.withPreloadEnd w e = { s.withPreloadEnd w e with walks := ws } := by
  unfold State.withPreloadEnd
  split
  · rfl
  · split <;> rfl

theorem withPreloadFailed_withWalks (s : State) (ws : List Walk) (w : Walk) (code : Status) (qual : Qualifier) :
    { s with walks := ws }.withPreloadFailed w code qual = { s.withPreloadFailed w code qual with walks := ws } := by
  unfold State.withPreloadFailed
  split <;> rfl

theorem withPreloadFailed_walks (s : State) (w : Walk) (code : Status) (qual : Qualifier) :
    (s.withPreloadFailed w code qual).walks = s.walks := by rw [withPreloadFailed_frame]

theorem withPreloadEnd_walks (s : State) (w : Walk) (e : TcEntry) : (s.withPreloadEnd w e).walks = s.walks := by
  unfold State.withPreloadEnd
  split
  · rfl
  · split <;> rfl

section Bare

variable {s : State} {p : PortTagId} {time : Nat} {l₁ l₂ : List Walk} {w : Walk}

/-- The record of a walk whose preload has ended and that has no waiters is removed. -/
theorem finishWaiters_bare (first : FirstOf (Walk.holdsTag p) s.walks l₁ w l₂) (bare : w.waiters = [])
    (finish : Walk → Request → State → State) (k : Nat) :
    (State.finishWaiters p finish k s).removeWalk p = { s with walks := l₁ ++ l₂ } := by
  rw [finishWaiters_done first bare, removeWalk_split first]

variable (busy : s.portTags.get p = .busy .walk time) (first : FirstOf (Walk.holdsTag p) s.walks l₁ w l₂)
  (alive : w.orphaned = false) (bare : w.waiters = [])
  (running : ∀ n pin, w.preload = some (n, pin) → (s.slots.get n).state = .running)
include busy first alive bare running

theorem exec_of_validWalk_bare {data : List Byte} (full : data.length = 8) (valid : (pageEntryOf data).valid = true) :
    exec (.answer p (.ok data)) s = .next
      ({ s.withPortTag p .free with walks := l₁ ++ l₂, tc := s.installed w (pageEntryOf data) :: makeRoom s.tc }.withPreloadEnd w
        (s.installed w (pageEntryOf data))) := by
  have departs := (departWalk_of_live (s := s.withPortTag p .free) first alive (.ok data)).trans
    (completeWalk_of_valid full valid p w)
  have preload := endPreloadOf_withPreloadEnd (s := (s.withPortTag p .free).install w (pageEntryOf data)) running
    (s.installed w (pageEntryOf data))
  refine (exec_answer_of_busy busy _).trans (congrArg Host.Outcome.next (departs.trans ?_))
  refine (congrArg (fun u => (State.finishWaiters p _ _ u).removeWalk p) preload).trans ?_
  rw [finishWaiters_bare (by rw [withPreloadEnd_walks]; exact first) bare]
  exact (withPreloadEnd_withWalks ..).symm

end Bare

/-- Settles O37: without waiters the walk's end is its page's installation, if it has one, and its preload's end. -/
theorem walkWithoutWaitersInstallsItsPage : Obligations.WalkWithoutWaitersInstallsItsPage := by
  intro s p time l₁ w l₂ data busy first alive bare running full
  have failed : ∀ {c : Instr} {tag : PortTag} {code : Status} {qual : Qualifier} (finish : Walk → Request → State → State),
      exec c s = .next ((State.finishWaiters p finish w.waiters.length
        ((s.withPortTag p tag).withPreloadFailed w code qual)).removeWalk p) →
      exec c s = .next ({ s.withPortTag p tag with walks := l₁ ++ l₂ }.withPreloadFailed w code qual) := by
    intro c tag code qual finish ran
    rw [ran, finishWaiters_bare (by rw [withPreloadFailed_walks]; exact first) bare]
    exact congrArg _ (withPreloadFailed_withWalks ..).symm
  refine ⟨fun valid => ⟨_, _, installs_install s w (pageEntryOf data),
    exec_of_validWalk_bare busy first alive bare running full valid⟩, fun invalid => ?_, ?_, fun overdue => ?_⟩
  · obtain ⟨finish, -, ran⟩ := exec_of_failedWalk busy first alive running
      (.inl ⟨data, rfl, full, invalid, rfl, rfl, rfl, rfl, rfl⟩)
    exact failed finish ran
  · obtain ⟨finish, -, ran⟩ := exec_of_failedWalk busy first alive running (.inr (.inl ⟨rfl, rfl, rfl, rfl, rfl, rfl⟩))
    exact failed finish ran
  · obtain ⟨finish, -, ran⟩ := exec_of_failedWalk busy first alive running
      (.inr (.inr ⟨rfl, overdue, rfl, rfl, rfl, rfl, rfl⟩))
    exact failed finish ran

end Sys2Proof.Machine

/-! ## Grants of a FREE port tag (R155 to R157) -/

namespace Sys2Proof.Machine

section Grant

variable {s : State} {p : PortTagId}

/-! ### What each source issues -/

theorem issueWalk_split {l₁ l₂ : List Walk} {w : Walk} (first : FirstOf Walk.waits s.walks l₁ w l₂) :
    s.issueWalk p w = { s.withPortTag p (.busy .walk 0) with
      walks := l₁ ++ { w with state := .issued p } :: l₂
      portOut := s.portOut ++ [.walkRead p w.entryAddr] } := by
  obtain ⟨split, before, waits⟩ := first
  rw [State.issueWalk, split, updateFirst_split _ _ before waits]
  rfl

theorem issueWrite_split {l₁ l₂ : List PostedWrite} {e : PostedWrite} (first : FirstOf PostedWrite.isQueued s.pwq l₁ e l₂) :
    s.issueWrite p e = s.withWriteIssued p l₁ e l₂ := by
  obtain ⟨split, before, queued⟩ := first
  rw [State.issueWrite, split, updateFirst_split _ _ before queued]
  rfl

theorem issueRead_split {l₁ l₂ : List ReadEntry} {d : ReadEntry} (first : FirstOf ReadEntry.isReady s.rdt l₁ d l₂) :
    s.issueRead p d = s.withReadIssued p l₁ d l₂ := by
  obtain ⟨split, before, ready⟩ := first
  rw [State.issueRead, split, updateFirst_split _ _ before ready]
  rfl

/-! ### Which source the arbiter chooses (R157) -/

theorem arbitrate_of_walk {w : Walk} (walk : s.walks.find? Walk.waits = some w) : s.arbitrate p = s.issueWalk p w := by
  rw [State.arbitrate, walk]

theorem arbitrate_of_contest_pwq {e : PostedWrite} {d : ReadEntry} (noWalk : s.walks.find? Walk.waits = none)
    (write : s.pwq.find? PostedWrite.isQueued = some e) (read : s.rdt.find? ReadEntry.isReady = some d)
    (favours : s.contest = .pwq) : s.arbitrate p = { s.issueWrite p e with contest := .rdt } := by
  rw [State.arbitrate, noWalk, write, read, favours]

theorem arbitrate_of_contest_rdt {e : PostedWrite} {d : ReadEntry} (noWalk : s.walks.find? Walk.waits = none)
    (write : s.pwq.find? PostedWrite.isQueued = some e) (read : s.rdt.find? ReadEntry.isReady = some d)
    (favours : s.contest = .rdt) : s.arbitrate p = { s.issueRead p d with contest := .pwq } := by
  rw [State.arbitrate, noWalk, write, read, favours]

theorem arbitrate_of_write {e : PostedWrite} (noWalk : s.walks.find? Walk.waits = none)
    (write : s.pwq.find? PostedWrite.isQueued = some e) (noRead : s.rdt.find? ReadEntry.isReady = none) :
    s.arbitrate p = s.issueWrite p e := by
  rw [State.arbitrate, noWalk, write, noRead]

theorem arbitrate_of_read {d : ReadEntry} (noWalk : s.walks.find? Walk.waits = none)
    (noWrite : s.pwq.find? PostedWrite.isQueued = none) (read : s.rdt.find? ReadEntry.isReady = some d) :
    s.arbitrate p = s.issueRead p d := by
  rw [State.arbitrate, noWalk, noWrite, read]

theorem exec_grant_of_free (free : s.portTags.get p = .free) : exec (.grant p) s = .next (s.arbitrate p) :=
  congrArg Host.Outcome.next (if_pos free)

end Grant

/-- Settles O33: the arbiter's choice by what each source offers, and what the chosen source issues. -/
theorem grantServesWalksThenTheContest : Obligations.GrantServesWalksThenTheContest := by
  intro s p free
  rw [exec_grant_of_free free]
  refine ⟨fun l₁ w l₂ first => ?_, fun noneWaits => ?_⟩
  · rw [arbitrate_of_walk (find_of_first first), issueWalk_split first]
  have noWalk : s.walks.find? Walk.waits = none := find_none _ fun w hw => decide_eq_false (noneWaits w hw)
  refine ⟨fun l₁ e l₂ m₁ d m₂ write read => ?_, fun l₁ e l₂ write noneReady => ?_, fun m₁ d m₂ read noneQueued => ?_⟩
  · cases favours : s.contest with
    | pwq => rw [arbitrate_of_contest_pwq noWalk (find_of_first write) (find_of_first read) favours, issueWrite_split write]
    | rdt => rw [arbitrate_of_contest_rdt noWalk (find_of_first write) (find_of_first read) favours, issueRead_split read]
  · have noRead : s.rdt.find? ReadEntry.isReady = none := find_none _ fun d hd => decide_eq_false (noneReady d hd)
    rw [arbitrate_of_write noWalk (find_of_first write) noRead, issueWrite_split write]
  · have noWrite : s.pwq.find? PostedWrite.isQueued = none := find_none _ fun e he => decide_eq_false (noneQueued e he)
    rw [arbitrate_of_read noWalk noWrite (find_of_first read), issueRead_split read]

end Sys2Proof.Machine

/-! ## Answers and expiries that reach no owner -/

namespace Sys2Proof.Machine

section NoOwner

variable {s : State} {p : PortTagId}

/-- An answer under a FREE tag is discarded (R159). -/
theorem exec_answer_of_free (free : s.portTags.get p = .free) (a : Answer) : exec (.answer p a) s = .next s := by
  have run : exec (.answer p a) s = execAnswer p a s := rfl
  rw [run, execAnswer, free]

/-- A late answer frees its tag and is discarded (R159). -/
theorem exec_answer_of_quarantined (late : s.portTags.get p = .quarantined) (a : Answer) :
    exec (.answer p a) s = .next (s.withPortTag p .free) := by
  have run : exec (.answer p a) s = execAnswer p a s := rfl
  rw [run, execAnswer, late]
  rfl

theorem overdue_of_expires {time : Nat} (expires : s.expires time = true) : s.overdue time := by
  simpa [State.expires, State.overdue] using expires

/-- Only a BUSY tag whose request has reached the limit expires (R160, R161; log 1). -/
theorem exec_expiry_of_notDue (notDue : ∀ k time, s.portTags.get p = .busy k time → ¬s.overdue time) :
    exec (.expiry p) s = .next s := by
  have run : exec (.expiry p) s = execExpiry p s := rfl
  rw [run, execExpiry]
  cases tag : s.portTags.get p with
  | free => rfl
  | quarantined => rfl
  | busy k time => exact congrArg Host.Outcome.next (if_neg fun expires => notDue k time tag (overdue_of_expires expires))

/-- The end of an orphaned walk removes its record and reports nothing (R102). -/
theorem departWalk_of_orphaned {l₁ l₂ : List Walk} {w : Walk} (first : FirstOf (Walk.holdsTag p) s.walks l₁ w l₂)
    (orphaned : w.orphaned = true) (o : PortOutcome) : s.departWalk p o = { s with walks := l₁ ++ l₂ } := by
  rw [State.departWalk, find_of_first first]
  exact (if_pos orphaned).trans (removeWalk_split first)

end NoOwner

/-- Settles O36, by the state of the tag. -/
theorem lateStrayAndOrphanedAnswersReachNoOne : Obligations.LateStrayAndOrphanedAnswersReachNoOne := by
  intro s p ans
  refine ⟨fun free => ⟨exec_answer_of_free free ans, ?_⟩, fun late => ⟨exec_answer_of_quarantined late ans, ?_⟩,
    fun k time busy early => ?_, fun time l₁ w l₂ busy first orphaned => ⟨?_, fun overdue => ?_⟩⟩
  · exact exec_expiry_of_notDue fun k time busy => by simp [free] at busy
  · exact exec_expiry_of_notDue fun k time busy => by simp [late] at busy
  · refine exec_expiry_of_notDue fun k' time' busy' => ?_
    obtain ⟨rfl, rfl⟩ := PortTag.busy.inj (busy.symm.trans busy')
    exact early
  · exact (exec_answer_of_busy busy ans).trans
      (congrArg _ (departWalk_of_orphaned (s := s.withPortTag p .free) first orphaned (outcomeOf ans)))
  · exact (exec_expiry_of_overdue busy overdue).trans
      (congrArg _ (departWalk_of_orphaned (s := s.withPortTag p .quarantined) first orphaned .timeout))

end Sys2Proof.Machine

/-! ## What an answer under the terms of R158 carries -/

namespace Sys2Proof.Machine

/-- A request that host memory may still answer under a tag is the last one issued under it. -/
theorem lastRequest_of_owed {s : State} {p : PortTagId} {k : Nat} (owed : s.owed p = some k) : s.lastRequest p = s.portOut[k]? := by
  have last : lastUnder p s.portOut = some k := by
    unfold State.owed at owed
    split at owed
    · contradiction
    · exact owed
  rw [State.lastRequest, last, Option.bind_some]

/-- An OK answer to a request for bytes carries them as host memory held them when it performed the request (R158). -/
theorem bytes_of_answerAllowed {issued : List PortMessage} {start : MemAddr → Byte} {h : List HostEvent} {k : Nat}
    {m : PortMessage} {a : MemAddr} {n : Nat} {data : List Byte} (request : issued[k]? = some m) (asks : askedBytes m = some (a, n))
    (allowed : answerAllowed issued start h k (.ok data)) :
    ∃ h₁ b h₂, h = h₁ ++ .performs k b :: h₂ ∧ data = bytesAfter issued start h₁ a n := by
  unfold answerAllowed at allowed
  rw [request] at allowed
  cases m with
  | write t x l en bs => simp [askedBytes] at asks
  | resetSignal => simp [askedBytes] at asks
  | walkRead t x | read t x l =>
    obtain ⟨a', n', h₁, b, h₂, asks', split, held⟩ := allowed
    obtain ⟨rfl, rfl⟩ := Prod.mk.inj (Option.some.inj (asks.symm.trans asks'))
    exact ⟨h₁, b, h₂, split, held⟩

/-- A write is served before every request issued behind it (R158). -/
theorem servedBefore_of_write {issued : List PortMessage} {j k : Nat} {m : PortMessage} (earlier : j < k)
    (request : issued[j]? = some m) (write : isWriteRequest m = true) : servedBefore issued j k = true := by
  simp [servedBefore, earlier, request, write]

/-- A history under the terms performs a write ahead of every request issued behind it, if it performs it at all (R158). -/
theorem write_performed_before {issued : List PortMessage} {h₁ h₂ : List HostEvent} {j k : Nat} {b c : BitVec 64} {m : PortMessage}
    (terms : HostTerms issued (h₁ ++ .performs k b :: h₂)) (earlier : j < k) (request : issued[j]? = some m)
    (write : isWriteRequest m = true) (performed : .performs j c ∈ h₁ ++ HostEvent.performs k b :: h₂) : .performs j c ∈ h₁ := by
  obtain ⟨order, -⟩ := terms
  obtain ⟨-, behind, -⟩ := List.pairwise_append.1 order
  obtain before | same | after : .performs j c ∈ h₁ ∨ j = k ∧ c = b ∨ .performs j c ∈ h₂ := by simpa using performed
  · exact before
  · omega
  · have inOrder : inServiceOrder issued (.performs k b) (.performs j c) = true := List.rel_of_pairwise_cons behind after
    simp [inServiceOrder, servedBefore_of_write earlier request write] at inOrder

/-- An OK answer under a tag whose last request asks for bytes carries them as host memory held them when it performed that
request, behind every write issued before it that is performed at all. -/
theorem bytes_of_mayAnswer {s : State} {p : PortTagId} {start : MemAddr → Byte} {h : List HostEvent} {data : List Byte}
    {m : PortMessage} {a : MemAddr} {n : Nat} (may : s.mayAnswer start h p (.ok data)) (last : s.lastRequest p = some m)
    (asks : askedBytes m = some (a, n)) :
    ∃ k h₁ b h₂, s.owed p = some k ∧ h = h₁ ++ .performs k b :: h₂ ∧ data = bytesAfter s.portOut start h₁ a n ∧
      ∀ j c m, j < k → s.portOut[j]? = some m → isWriteRequest m = true → .performs j c ∈ h → .performs j c ∈ h₁ := by
  obtain ⟨terms, k, owed, allowed⟩ := may
  obtain ⟨h₁, b, h₂, rfl, held⟩ := bytes_of_answerAllowed ((lastRequest_of_owed owed).symm.trans last) asks allowed
  exact ⟨k, h₁, b, h₂, owed, rfl, held, fun j c m => write_performed_before terms⟩

/-- An unmarked read whose discard flag is clear is answered DATA with the bytes of an OK answer of its length (R129). -/
theorem exec_answer_of_read {s : State} {p : PortTagId} {time : Nat} {l₁ l₂ : List ReadEntry} {d : ReadEntry} {data : List Byte}
    (busy : s.portTags.get p = .busy .read time) (first : FirstOf (ReadEntry.holdsTag p) s.rdt l₁ d l₂)
    (kept : d.discard = false) (unmarked : ∀ n, d.marks.get n = false) (full : data.length = d.length) :
    exec (.answer p (.ok data)) s =
      .next { (s.withPortTag p .free).respond d.requester d.tag (.data data) with rdt := l₁ ++ l₂ } := by
  have departs := departRead_unmarked (s := s.withPortTag p .free) first unmarked (.ok data)
  refine (exec_answer_of_busy busy _).trans (congrArg Host.Outcome.next (departs.trans ?_))
  simp only [State.answerRead, kept, useFree_of_length _ full, fullAnswer_of_length _ full]
  rfl

/-- Settles O60: the owner of the tag waits for the last request under it, and an answer under the terms is the answer to that
request. -/
theorem answersUnderTheTermsCarryWhatHostMemoryHeld : Obligations.AnswersUnderTheTermsCarryWhatHostMemoryHeld := by
  intro s p time start h data outstanding may
  obtain ⟨walks, -, reads⟩ := outstanding
  refine ⟨fun l₁ d l₂ busy first kept unmarked => ?_, fun w member issued => bytes_of_mayAnswer may (walks w member p issued) rfl⟩
  have last : s.lastRequest p = some (.read p d.memAddr d.length) := by
    obtain ⟨split, -, holds⟩ := first
    exact reads d (by simp [split]) p (of_decide_eq_true holds)
  obtain ⟨k, h₁, b, h₂, owed, performs, held, behind⟩ := bytes_of_mayAnswer may last rfl
  have full : data.length = d.length := by rw [held, bytesAfter_length]
  exact ⟨k, h₁, b, h₂, owed, performs, held, behind, exec_answer_of_read busy first kept unmarked full⟩

end Sys2Proof.Machine

/-! ## The departure of a posted write that no command has marked -/

namespace Sys2Proof.Machine

/-- The departure of an unmarked write is the freeing of its reads and its capture. -/
theorem departWrite_unmarked {s : State} {p : PortTagId} {l₁ l₂ : List PostedWrite} {e : PostedWrite}
    (first : FirstOf (PostedWrite.holdsTag p) s.pwq l₁ e l₂) (unmarked : ∀ n, e.marks.get n = false) (o : PortOutcome) :
    s.departWrite p o = { s with pwq := l₁ ++ l₂, rdt := freed e.seq s.rdt }.captureLoss e.requester
      (fun q => .writeLost q e.linkAddr e.aperture) (failureOf o) := by
  rw [departWrite_split first, tellAll_unmarked unmarked]

/-- Settles O34: an unmarked write tells no command, so its departure is what `departWrite_unmarked` says. -/
theorem postedWriteLeavesOnItsAnswerOrExpiry : Obligations.PostedWriteLeavesOnItsAnswerOrExpiry := by
  intro s p time l₁ e l₂ busy first unmarked
  have departs : ∀ (tag : PortTag) (o : PortOutcome), (s.withPortTag p tag).ownerTakes p .write o =
      { s.withPortTag p tag with pwq := l₁ ++ l₂, rdt := freed e.seq s.rdt }.captureLoss e.requester
        (fun q => .writeLost q e.linkAddr e.aperture) (failureOf o) :=
    fun tag o => departWrite_unmarked (s := s.withPortTag p tag) first unmarked o
  refine ⟨fun data => ?_, ?_, fun overdue => ?_⟩
  · exact (exec_answer_of_busy busy (.ok data)).trans (congrArg _ (departs .free (.ok data)))
  · exact ⟨_, (exec_answer_of_busy busy .error).trans (congrArg _ (departs .free .error)), captured_capture _ _ _⟩
  · exact ⟨_, (exec_expiry_of_overdue busy overdue).trans (congrArg _ (departs .quarantined .timeout)), captured_capture _ _ _⟩

end Sys2Proof.Machine

/-! ## Every change of the queue and the tracker

`Move.entries` says of the posted writes and the reads only what the laws of marks need. Their order needs to know which entries
are made, leave or change, and what changes in them: a command's changes of the two collections are a chain of the few moves of
`EntryMove`. -/

namespace Sys2Proof.Machine

/-- The posted write queue and the read tracker, with the number that the next entry gets. -/
def State.entries (s : State) : List PostedWrite × List ReadEntry × Nat := (s.pwq, s.rdt, s.nextSeq)

theorem entries_eq_iff {s t : State} : t.entries = s.entries ↔ t.pwq = s.pwq ∧ t.rdt = s.rdt ∧ t.nextSeq = s.nextSeq := by
  simp [State.entries]

/-- One change of the queue or the tracker. -/
inductive EntryMove (s : State) : State → Prop where
  /-- What holds no posted write and no read changes. -/
  | quiet (t : State) (same : t.entries = s.entries) : EntryMove s t
  /-- Every block takes its reset values. -/
  | resets : EntryMove s State.reset
  /-- A take marks the entries in its scope (R136). -/
  | marks (n : SlotId) (pw : PostedWrite → Bool) (pr : ReadEntry → Bool) : EntryMove s (s.mark n pw pr)
  /-- A link reset sets every discard flag (R64). -/
  | discards : EntryMove s { s with rdt := s.rdt.map fun d => { d with discard := true } }
  /-- A WRITE is accepted (R108). -/
  | posts (a : ApIndex) (m : MemAddr) (q : Request) (en : BitVec 64) (data : List Byte) : EntryMove s (s.postWrite a m q en data)
  /-- A READ is tracked (R124). -/
  | tracks (a : ApIndex) (ord : ReadOrder) (m : MemAddr) (q : Request) : EntryMove s (s.trackRead a ord m q)
  /-- A posted write leaves the queue and the reads that it held are freed (R126). -/
  | writeLeaves (l₁ : List PostedWrite) (e : PostedWrite) (l₂ : List PostedWrite) (split : s.pwq = l₁ ++ e :: l₂) :
      EntryMove s { s with pwq := l₁ ++ l₂, rdt := freed e.seq s.rdt }
  /-- A read leaves the tracker (R129). -/
  | readLeaves (l₁ : List ReadEntry) (d : ReadEntry) (l₂ : List ReadEntry) (split : s.rdt = l₁ ++ d :: l₂) :
      EntryMove s { s with rdt := l₁ ++ l₂ }
  /-- The oldest QUEUED posted write is issued (R111). -/
  | writeIssues (p : PortTagId) (e : PostedWrite) : EntryMove s (s.issueWrite p e)
  /-- The oldest READY read is issued (R128). -/
  | readIssues (p : PortTagId) (d : ReadEntry) : EntryMove s (s.issueRead p d)

/-- A chain of changes of the queue and the tracker. -/
abbrev EntryMoves : State → State → Prop := Relation.ReflTransGen EntryMove

theorem EntryMoves.quiet {s t u : State} (h : EntryMoves s t) (same : u.entries = t.entries) : EntryMoves s u :=
  h.tail (.quiet u same)

theorem EntryMoves.after {s u t : State} (h : EntryMoves u t) (same : u.entries = s.entries) : EntryMoves s t :=
  .head (.quiet u same) h

theorem entryMoves_of_same {s t : State} (same : t.entries = s.entries) : EntryMoves s t := .single (.quiet t same)

/-- What every change of the queue and the tracker keeps, the chains keep. -/
theorem EntryMoves.keeps {law : State → Prop} (kept : ∀ s t, EntryMove s t → law s → law t) {s t : State} (h : EntryMoves s t)
    (holds : law s) : law t := by
  induction h with
  | refl => exact holds
  | tail _ move ih => exact kept _ _ move ih

/-! ### What changes no entry -/

section Same

variable (s : State)

theorem release_entries (r : RequesterId) (x : LinkReply) : (s.release r x).entries = s.entries := by
  rw [release_frame]
  rfl

theorem orphan_entries (p : Walk → Bool) (x : LinkReply) : (s.orphan p x).entries = s.entries := by
  rw [orphan_frame]
  rfl

theorem capture_entries (r : RequesterId) (f : FaultRecord) : (s.capture r f).entries = s.entries := by
  rw [capture_frame]
  rfl

/-- A request is answered ABORT and its fault captured. -/
theorem aborted_entries (q : Request) (x : LinkReply) (f : FaultRecord) :
    ((s.respond q.requester q.tag x).capture q.requester f).entries = s.entries := capture_entries ..

theorem captureLoss_entries (r : RequesterId) (f : Qualifier → FaultRecord) (failure : Option Qualifier) :
    (s.captureLoss r f failure).entries = s.entries := by
  cases failure with
  | none => rfl
  | some q => exact capture_entries ..

theorem answerRead_entries (d : ReadEntry) (o : PortOutcome) : (s.answerRead d o).entries = s.entries := by
  rw [answerRead_frame]
  rfl

theorem miss_entries (a : ApIndex) (gen : Generation) (page : Nat) (m : MemAddr) (q : Request) :
    (s.miss a gen page m q).entries = s.entries := by
  rw [miss_frame]
  rfl

theorem complete_entries (n : SlotId) : (s.complete n).entries = s.entries := by
  rw [complete_frame]
  rfl

theorem waitOrComplete_entries (n : SlotId) : (s.waitOrComplete n).entries = s.entries := by
  unfold State.waitOrComplete
  split
  · rfl
  · exact complete_entries ..

theorem completeIf_entries (n : SlotId) (c : Command) : (s.completeIf n c).entries = s.entries := by
  unfold State.completeIf
  split
  · exact complete_entries ..
  · rfl

theorem tellAll_entries (lost : Bool) (marks : MarkSet) (ns : List SlotId) : (s.tellAll lost marks ns).entries = s.entries := by
  rw [tellAll_frame]
  rfl

theorem endPreload_entries (n : SlotId) (o : PreloadEnd) : (s.endPreload n o).entries = s.entries := by
  rw [endPreload_frame]
  rfl

theorem endPreloadOf_entries (w : Walk) (o : PreloadEnd) : (s.endPreloadOf w o).entries = s.entries := by
  rw [endPreloadOf_frame]
  rfl

/-! ### Takes that change no entry -/

variable (n : SlotId)

theorem takeApSet_entries : (s.takeApSet n).entries = s.entries := by
  unfold State.takeApSet State.grantAperture
  dsimp only
  repeat' split
  all_goals rfl

theorem takeQueryAperture_entries : (s.takeQueryAperture n).entries = s.entries := by
  unfold State.takeQueryAperture
  split <;> rfl

theorem takeTcPreload_entries : (s.takeTcPreload n).entries = s.entries := by
  unfold State.takeTcPreload State.preloadPresent State.preloadWalk
  dsimp only
  repeat' split
  all_goals rfl

theorem takeTcUnpin_entries : (s.takeTcUnpin n).entries = s.entries := by
  unfold State.takeTcUnpin
  dsimp only
  repeat' split
  all_goals rfl

theorem takeQueryTc_entries : (s.takeQueryTc n).entries = s.entries := by
  unfold State.takeQueryTc
  dsimp only
  split <;> rfl

variable (r : RequesterId)

theorem enable_entries : (s.enable n r).entries = s.entries := by
  unfold State.enable
  dsimp only
  split <;> rfl

theorem disable_entries : (s.disable n r).entries = s.entries := by
  unfold State.disable
  dsimp only
  split
  · exact release_entries ..
  · rfl

theorem resume_entries : (s.resume n r).entries = s.entries := by
  unfold State.resume
  dsimp only
  split <;> rfl

end Same

/-! ### Entries are made (R57) -/

theorem enter_entryMoves (s : State) (a : ApIndex) (ord : ReadOrder) (m : MemAddr) (q : Request) :
    EntryMoves s (s.enter a ord m q) := by
  obtain ⟨en, data, -, -, h⟩ | ⟨-, -, h⟩ | ⟨-, h⟩ | ⟨-, h⟩ := enter_cases s a ord m q <;> rw [h]
  · exact EntryMoves.quiet (.single (.posts a m q en data)) rfl
  · exact .single (.tracks a ord m q)
  · exact entryMoves_of_same rfl
  · exact entryMoves_of_same rfl

theorem translate_entryMoves (s : State) (a : ApIndex) (g : Grant) (q : Request) : EntryMoves s (s.translate a g q) := by
  unfold State.translate
  split
  · exact enter_entryMoves ..
  · dsimp only
    split
    · unfold State.hit
      split
      · exact (enter_entryMoves ..).after rfl
      · exact entryMoves_of_same (aborted_entries ..)
    · exact entryMoves_of_same (miss_entries ..)

theorem checkArrival_entryMoves (s : State) (q : Request) : EntryMoves s (s.checkArrival q) := by
  unfold State.checkArrival
  split
  · split
    · unfold State.checkAdmission
      split
      · exact entryMoves_of_same rfl
      · split
        · exact entryMoves_of_same (aborted_entries ..)
        · split
          · exact translate_entryMoves ..
          · exact entryMoves_of_same (aborted_entries ..)
    · exact entryMoves_of_same rfl
  · exact entryMoves_of_same (aborted_entries ..)

/-! ### Entries leave (R115, R129) -/

theorem departWrite_entryMoves (s : State) (p : PortTagId) (o : PortOutcome) : EntryMoves s (s.departWrite p o) := by
  rcases split_at_first (PostedWrite.holdsTag p) s.pwq with none | ⟨l₁, e, l₂, first⟩
  · rw [State.departWrite, find_none _ none]
  · rw [departWrite_split first]
    exact EntryMoves.quiet (.single (.writeLeaves l₁ e l₂ first.1)) ((tellAll_entries ..).trans (captureLoss_entries ..))

theorem departRead_entryMoves (s : State) (p : PortTagId) (o : PortOutcome) : EntryMoves s (s.departRead p o) := by
  rcases split_at_first (ReadEntry.holdsTag p) s.rdt with none | ⟨l₁, d, l₂, first⟩
  · rw [State.departRead, find_none _ none]
  · rw [departRead_split first]
    exact EntryMoves.quiet (.single (.readLeaves l₁ d l₂ first.1))
      ((tellAll_entries ..).trans ((captureLoss_entries ..).trans (answerRead_entries ..)))

/-! ### The completion of a walk -/

theorem resumeWaiter_entryMoves (pe : PageEntry) (w : Walk) (q : Request) (s : State) :
    EntryMoves s (State.resumeWaiter pe w q s) := by
  unfold State.resumeWaiter
  split
  · exact enter_entryMoves ..
  · exact entryMoves_of_same (aborted_entries ..)

/-- Turns that are each a chain of changes make one chain, and the walk's end changes no entry. -/
theorem finished_entryMoves {finish : Walk → Request → State → State} (turn : ∀ w q u, EntryMoves u (finish w q u)) (p : PortTagId)
    (k : Nat) (s : State) : EntryMoves s ((State.finishWaiters p finish k s).removeWalk p) :=
  EntryMoves.quiet (finishWaiters_keeps (EntryMoves s)
    (fun _ w q _ chain _ _ => chain.trans ((turn w q _).after rfl)) k s .refl) rfl

theorem completeWalk_entryMoves (s : State) (p : PortTagId) (w : Walk) (o : PortOutcome) : EntryMoves s (s.completeWalk p w o) := by
  have noPage : ∀ w q u, EntryMoves u (State.noPageWaiter w q u) := fun _ _ _ => entryMoves_of_same (aborted_entries ..)
  have failed : ∀ qual w q u, EntryMoves u (State.walkErrorWaiter qual w q u) := fun _ _ _ _ => entryMoves_of_same (aborted_entries ..)
  cases o with
  | ok data =>
    unfold State.completeWalk
    dsimp only
    split
    · exact (finished_entryMoves (resumeWaiter_entryMoves _) p _ _).after (endPreloadOf_entries ..)
    · exact (finished_entryMoves noPage p _ _).after (endPreloadOf_entries ..)
  | error => exact (finished_entryMoves (failed .error) p _ _).after (endPreloadOf_entries ..)
  | timeout => exact (finished_entryMoves (failed .timeout) p _ _).after (endPreloadOf_entries ..)

theorem departWalk_entryMoves (s : State) (p : PortTagId) (o : PortOutcome) : EntryMoves s (s.departWalk p o) := by
  unfold State.departWalk
  split
  · exact .refl
  · split
    · exact entryMoves_of_same rfl
    · exact completeWalk_entryMoves ..

theorem ownerTakes_entryMoves (s : State) (p : PortTagId) (k : PortKind) (o : PortOutcome) : EntryMoves s (s.ownerTakes p k o) := by
  cases k with
  | walk => exact departWalk_entryMoves s p o
  | write => exact departWrite_entryMoves s p o
  | read => exact departRead_entryMoves s p o

/-! ### Grants (R157) -/

theorem arbitrate_entryMoves (s : State) (p : PortTagId) : EntryMoves s (s.arbitrate p) := by
  have write : ∀ e, EntryMoves s (s.issueWrite p e) := fun e => .single (.writeIssues p e)
  have read : ∀ d, EntryMoves s (s.issueRead p d) := fun d => .single (.readIssues p d)
  obtain ⟨w, -, h⟩ | ⟨-, e, -, ⟨h, -⟩ | ⟨h, -⟩⟩ | ⟨-, d, -, ⟨h, -⟩ | ⟨h, -⟩⟩ | h := arbitrate_cases s p <;> rw [h]
  · exact entryMoves_of_same rfl
  · exact write e
  · exact (write e).quiet rfl
  · exact read d
  · exact (read d).quiet rfl

/-! ### Takes -/

section Takes

variable {s : State}

theorem takeOf_entryMoves {c : Option Command} {body : SlotId → State} (taken : ∀ n, EntryMoves s (body n)) :
    EntryMoves s (s.takeOf c body) := by
  obtain ⟨n, -, -, h⟩ | h := takeOf_cases s c body <;> rw [h]
  exact taken n

theorem takeRequester_entryMoves {c : Option Command} {body : SlotId → RequesterId → State}
    (taken : ∀ n r, EntryMoves s (body n r)) : EntryMoves s (s.takeOf c fun n => s.takeRequester n (body n)) :=
  takeOf_entryMoves fun n => by
    unfold State.takeRequester
    split
    · exact entryMoves_of_same rfl
    · exact taken n _

variable (n : SlotId)

/-- A command that drains an aperture marks the entries in its scope. -/
theorem drains_entryMoves (s : State) (e : TcEntry → Bool) (p : Walk → Bool) (x : LinkReply) (pw : PostedWrite → Bool)
    (pr : ReadEntry → Bool) (v v' : Word) : EntryMoves s
      ((((((s.dropEntries e).orphan p x).mark n pw pr).writeWord n 5 v).writeWord n 6 v').waitOrComplete n) := by
  have marked : EntryMoves s (((s.dropEntries e).orphan p x).mark n pw pr) :=
    EntryMoves.after (.single (.marks n pw pr)) (orphan_entries ..)
  exact marked.quiet (waitOrComplete_entries ..)

theorem takeApRetire_entryMoves : EntryMoves s (s.takeApRetire n) := by
  unfold State.takeApRetire
  split
  · exact entryMoves_of_same rfl
  · split
    · exact entryMoves_of_same rfl
    · exact entryMoves_of_same rfl
    · split
      · exact (drains_entryMoves n ..).after rfl
      · exact entryMoves_of_same rfl

theorem takeApInvalidate_entryMoves : EntryMoves s (s.takeApInvalidate n) := by
  unfold State.takeApInvalidate
  dsimp only
  split
  · exact entryMoves_of_same rfl
  · split
    · split
      · exact (drains_entryMoves n ..).after rfl
      · exact entryMoves_of_same rfl
    · exact entryMoves_of_same rfl

theorem takeFlush_entryMoves : EntryMoves s (s.takeFlush n) :=
  EntryMoves.quiet (.single (.marks n (fun _ => true) fun _ => false)) (waitOrComplete_entries ..)

theorem drainRequester_entryMoves (s : State) (r : RequesterId) : EntryMoves s (s.drainRequester n r) :=
  EntryMoves.quiet (.single (.marks n _ _)) (waitOrComplete_entries ..)

theorem halt_entryMoves (r : RequesterId) : EntryMoves s (s.halt n r) := by
  unfold State.halt
  dsimp only
  split
  · exact (drainRequester_entryMoves ..).after (release_entries ..)
  · exact (drainRequester_entryMoves ..).after rfl
  all_goals exact entryMoves_of_same rfl

end Takes

/-! ### The window -/

theorem hostWriteAt_entryMoves (s : State) (w : WindowWord) (v : Word) : EntryMoves s (s.hostWriteAt w v) := by
  obtain h | h := hostWriteAt_cases s w v <;> rw [h]
  · exact EntryMoves.quiet (.single .resets) rfl
  · exact entryMoves_of_same rfl

theorem hostWrite_entryMoves (s : State) (w : WindowWord) (v : Word) : EntryMoves s (s.hostWrite w v) := by
  unfold State.hostWrite
  split
  · exact .refl
  · exact hostWriteAt_entryMoves s w v

theorem hostAccess_entryMoves (s : State) (off : Nat) (bytes : List Byte) : EntryMoves s (s.hostAccess off bytes) := by
  unfold State.hostAccess
  split
  · exact .refl
  · split
    · exact hostWriteAt_entryMoves ..
    · split
      · exact entryMoves_of_same rfl
      · exact .refl

/-! ### The commands -/

/-- Every command changes the queue and the tracker by a chain of moves. -/
theorem exec_entryMoves {c : Instr} {s t : State} (h : exec c s = .next t) : EntryMoves s t := by
  cases c with
  | arrival q =>
    cases h
    split
    · exact .refl
    · split
      · exact entryMoves_of_same (capture_entries ..)
      · exact (checkArrival_entryMoves (s.setLinkTag q.requester q.tag .busy) q).after rfl
  | linkReset => cases h; exact EntryMoves.quiet (.single .discards) rfl
  | partReset cause => cases cause <;> cases h <;> exact EntryMoves.quiet (.single .resets) rfl
  | answer p a =>
    cases h
    split
    · exact .refl
    · exact entryMoves_of_same rfl
    · exact (ownerTakes_entryMoves (s.setPortTag p .free) ..).after rfl
  | expiry p =>
    cases h
    split
    · split
      · exact (ownerTakes_entryMoves (s.setPortTag p .quarantined) ..).after rfl
      · exact .refl
    · exact .refl
    · exact .refl
  | grant p =>
    cases h
    split
    · exact arbitrate_entryMoves s p
    · exact .refl
  | apSet => cases h; exact takeOf_entryMoves fun n => entryMoves_of_same (takeApSet_entries s n)
  | apRetire => cases h; exact takeOf_entryMoves takeApRetire_entryMoves
  | apInvalidate => cases h; exact takeOf_entryMoves takeApInvalidate_entryMoves
  | queryAperture => cases h; exact takeOf_entryMoves fun n => entryMoves_of_same (takeQueryAperture_entries s n)
  | reqEnable => cases h; exact takeRequester_entryMoves fun n r => entryMoves_of_same (enable_entries s n r)
  | reqDisable => cases h; exact takeRequester_entryMoves fun n r => entryMoves_of_same (disable_entries s n r)
  | reqHalt => cases h; exact takeRequester_entryMoves halt_entryMoves
  | reqResume => cases h; exact takeRequester_entryMoves fun n r => entryMoves_of_same (resume_entries s n r)
  | faultClear | queryRequester => cases h; exact takeRequester_entryMoves fun _ _ => entryMoves_of_same rfl
  | tcPreload => cases h; exact takeOf_entryMoves fun n => entryMoves_of_same (takeTcPreload_entries s n)
  | tcUnpin => cases h; exact takeOf_entryMoves fun n => entryMoves_of_same (takeTcUnpin_entries s n)
  | queryTc => cases h; exact takeOf_entryMoves fun n => entryMoves_of_same (takeQueryTc_entries s n)
  | flush => cases h; exact takeOf_entryMoves takeFlush_entryMoves
  | badOp => cases h; exact takeOf_entryMoves fun _ => entryMoves_of_same rfl
  | apRetireCompletion | apInvalidateCompletion | flushCompletion | reqHaltCompletion =>
    cases h
    exact entryMoves_of_same (completeIf_entries ..)
  | tcPreloadCompletion n o =>
    cases h
    split
    · exact entryMoves_of_same (endPreload_entries ..)
    · exact .refl
  | start | ack | word7Action3 | slotWordWrite | linkEnable | softReset | intStatusWrite | intEnableWrite | responseLimitWrite =>
    cases h
    exact hostWrite_entryMoves ..
  | registerWrite => cases h; exact hostAccess_entryMoves ..
  | resetNRelease => cases h; exact entryMoves_of_same rfl

/-- What every change of the queue and the tracker keeps, every step keeps. -/
theorem keptByStep_of_entryMove {law : State → Prop} (kept : ∀ s t, EntryMove s t → law s → law t) : KeptByStep law :=
  keptByStep_of_exec (fun s rest => kept s { s with pending := rest } (.quiet _ rfl)) (fun s => kept s s.tick (.quiet _ rfl))
    fun _ _ _ holds h => (exec_entryMoves h).keeps kept holds

end Sys2Proof.Machine

/-! ## Every step keeps the order of writes and reads -/

namespace Sys2Proof.Machine

/-- A take's marking changes nothing of a write but its marks (R136). -/
theorem map_markedWrites {β : Type} {f : PostedWrite → β}
    (same : ∀ (e : PostedWrite) (marks : MarkSet), f { e with marks := marks } = f e) (s : State) (n : SlotId)
    (pw : PostedWrite → Bool) (pr : ReadEntry → Bool) : (s.mark n pw pr).pwq.map f = s.pwq.map f := by
  rw [mark_frame, List.map_map]
  refine List.map_congr_left fun e _ => ?_
  rw [Function.comp_apply]
  split
  · exact same e _
  · rfl

/-! ### ISSUED writes stand ahead of QUEUED ones (R107) -/

theorem QueueOrderLaw.of_states {s t : State} (law : QueueOrderLaw s)
    (states : t.pwq.map PostedWrite.state = s.pwq.map PostedWrite.state) : QueueOrderLaw t := by
  have ordered : ∀ u : State, QueueOrderLaw u ↔ (u.pwq.map PostedWrite.state).Pairwise fun a b => a = .queued → b = .queued := by
    simp [QueueOrderLaw, PostedWrite.isQueued, List.pairwise_map]
  rw [ordered, states, ← ordered]
  exact law

/-- The first QUEUED write may be issued: all that stand ahead of it are ISSUED. -/
theorem queueOrder_issue (p : PortTagId) {l : List PostedWrite}
    (ordered : l.Pairwise fun a b => a.isQueued = true → b.isQueued = true) :
    (updateFirst PostedWrite.isQueued (fun (e : PostedWrite) => { e with state := .issued p }) l).Pairwise
      fun a b => a.isQueued = true → b.isQueued = true := by
  induction l with
  | nil => exact .nil
  | cons e es ih =>
    obtain ⟨-, behind⟩ := List.pairwise_cons.1 ordered
    unfold updateFirst
    split
    · exact List.pairwise_cons.2 ⟨fun _ _ queued => by simp [PostedWrite.isQueued] at queued, behind⟩
    · next issued => exact List.pairwise_cons.2 ⟨fun _ _ queued => absurd queued issued, ih behind⟩

theorem EntryMove.queueOrderLaw {s t : State} (move : EntryMove s t) (law : QueueOrderLaw s) : QueueOrderLaw t := by
  cases move with
  | quiet t same =>
    obtain ⟨pwq, -⟩ := entries_eq_iff.1 same
    exact law.of_states (by rw [pwq])
  | resets => exact .nil
  | marks n pw pr => exact law.of_states (map_markedWrites (fun _ _ => rfl) s n pw pr)
  | posts a m q en data =>
    refine List.pairwise_append.2 ⟨law, List.pairwise_singleton .., fun _ _ e new _ => ?_⟩
    obtain rfl := List.mem_singleton.1 new
    rfl
  | writeLeaves l₁ e l₂ split =>
    have sub : (l₁ ++ l₂).Sublist s.pwq := split ▸ (List.sublist_cons_self e l₂).append_left l₁
    exact law.sublist sub
  | writeIssues p e => exact queueOrder_issue p law
  | discards | tracks | readLeaves | readIssues => exact law

/-! ### The numbers of the writes, and what holds a read (R122, R125, R126) -/

/-- The writes are numbered in order, below `k`. -/
def NumberedBelow (k : Nat) (l : List PostedWrite) : Prop := (l.Pairwise fun a b => a.seq < b.seq) ∧ ∀ e ∈ l, e.seq < k

/-- A read is held by exactly the older writes of a queue that meet its ordering, and waits exactly while there is one. -/
def ReadEntry.heldIn (d : ReadEntry) (l : List PostedWrite) : Prop :=
  (d.state = .orderWait ↔ d.holding ≠ []) ∧ (∀ k ∈ d.holding, ∃ e ∈ l, e.seq = k) ∧
    ∀ e ∈ l, e.seq ∈ d.holding ↔ e.seq < d.seq ∧ holdsRead d.ordering d.requester d.memAddr e = true

theorem readOrderLaw_iff {s : State} :
    ReadOrderLaw s ↔ NumberedBelow s.nextSeq s.pwq ∧ ∀ d ∈ s.rdt, d.seq < s.nextSeq ∧ d.heldIn s.pwq := by
  simp only [ReadOrderLaw, NumberedBelow, ReadEntry.heldIn, imp_and, forall_and, and_assoc]

/-- What the order of reads asks of a write. -/
def PostedWrite.orderKey (e : PostedWrite) : Nat × RequesterId × MemAddr := (e.seq, e.requester, e.memAddr)

/-- The same read, whatever its marks, its discard flag and, once nothing holds it, its state. -/
def ReadEntry.sameOrder (d' d : ReadEntry) : Prop :=
  (d'.seq = d.seq ∧ d'.requester = d.requester ∧ d'.ordering = d.ordering ∧ d'.memAddr = d.memAddr ∧ d'.holding = d.holding) ∧
    (d'.state = .orderWait ↔ d.state = .orderWait)

theorem ReadEntry.sameOrder_refl (d : ReadEntry) : d.sameOrder d := ⟨⟨rfl, rfl, rfl, rfl, rfl⟩, .rfl⟩

theorem holdsRead_of_key {x e : PostedWrite} (requester : x.requester = e.requester) (memAddr : x.memAddr = e.memAddr)
    (ord : ReadOrder) (r : RequesterId) (m : MemAddr) : holdsRead ord r m x = holdsRead ord r m e := by
  simp only [holdsRead, requester, memAddr]

theorem mem_of_map_eq {α β : Type} {f : α → β} {l' l : List α} (same : l'.map f = l.map f) {x : α} (mem : x ∈ l') :
    ∃ y ∈ l, f y = f x := List.mem_map.1 (same ▸ List.mem_map_of_mem mem)

section Held

variable {d : ReadEntry} {l : List PostedWrite}

theorem NumberedBelow.of_keys {k : Nat} {l' : List PostedWrite} (numbered : NumberedBelow k l)
    (same : l'.map PostedWrite.orderKey = l.map PostedWrite.orderKey) : NumberedBelow k l' := by
  obtain ⟨ordered, below⟩ := numbered
  have seqs : l'.map PostedWrite.seq = l.map PostedWrite.seq := by
    have keys := congrArg (List.map Prod.fst) same
    rwa [List.map_map, List.map_map] at keys
  refine ⟨?_, fun x hx => ?_⟩
  · rwa [← List.pairwise_map (f := PostedWrite.seq) (R := (· < ·)), seqs, List.pairwise_map]
  · obtain ⟨e, he, seq⟩ := mem_of_map_eq seqs hx
    exact seq ▸ below e he

theorem ReadEntry.heldIn.of_keys {l' : List PostedWrite} (held : d.heldIn l)
    (same : l'.map PostedWrite.orderKey = l.map PostedWrite.orderKey) : d.heldIn l' := by
  obtain ⟨waits, present, older⟩ := held
  refine ⟨waits, fun k hk => ?_, fun x hx => ?_⟩
  · obtain ⟨e, he, rfl⟩ := present k hk
    obtain ⟨x, hx, key⟩ := mem_of_map_eq same.symm he
    exact ⟨x, hx, congrArg Prod.fst key⟩
  · obtain ⟨e, he, key⟩ := mem_of_map_eq same hx
    simp only [PostedWrite.orderKey, Prod.mk.injEq] at key
    obtain ⟨seq, requester, memAddr⟩ := key
    rw [← seq, ← holdsRead_of_key requester memAddr]
    exact older e he

theorem ReadEntry.heldIn.of_sameOrder {d' : ReadEntry} (held : d.heldIn l) (same : d'.sameOrder d) : d'.heldIn l := by
  obtain ⟨⟨seq, requester, ordering, memAddr, holding⟩, state⟩ := same
  rw [ReadEntry.heldIn, seq, requester, ordering, memAddr, holding, state]
  exact held

theorem NumberedBelow.mono {k k' : Nat} (numbered : NumberedBelow k l) (le : k ≤ k') : NumberedBelow k' l :=
  ⟨numbered.1, fun e he => (numbered.2 e he).trans_le le⟩

theorem NumberedBelow.sublist {k : Nat} {l' : List PostedWrite} (numbered : NumberedBelow k l) (sub : l'.Sublist l) :
    NumberedBelow k l' := ⟨numbered.1.sublist sub, fun e he => numbered.2 e (sub.subset he)⟩

theorem NumberedBelow.post {k : Nat} (numbered : NumberedBelow k l) {e : PostedWrite} (seq : e.seq = k) :
    NumberedBelow (k + 1) (l ++ [e]) := by
  obtain ⟨ordered, below⟩ := numbered
  refine ⟨List.pairwise_append.2 ⟨ordered, List.pairwise_singleton .., fun x hx y hy => ?_⟩, fun x hx => ?_⟩
  · obtain rfl := List.mem_singleton.1 hy
    exact seq ▸ below x hx
  · rcases List.mem_append.1 hx with hx | hx
    · exact (below x hx).trans (Nat.lt_succ_self k)
    · obtain rfl := List.mem_singleton.1 hx
      exact seq ▸ Nat.lt_succ_self _

/-- A write that is accepted behind a read does not hold it. -/
theorem ReadEntry.heldIn.post {k : Nat} (held : d.heldIn l) (numbered : NumberedBelow k l) (earlier : d.seq < k) {e : PostedWrite}
    (seq : e.seq = k) : d.heldIn (l ++ [e]) := by
  obtain ⟨waits, present, older⟩ := held
  refine ⟨waits, fun j hj => ?_, fun x hx => ?_⟩
  · obtain ⟨x, hx, rfl⟩ := present j hj
    exact ⟨x, List.mem_append_left _ hx, rfl⟩
  · rcases List.mem_append.1 hx with hx | hx
    · exact older x hx
    · obtain rfl := List.mem_singleton.1 hx
      refine iff_of_false (fun holds => ?_) fun ⟨before, _⟩ => by omega
      obtain ⟨x, hx, same⟩ := present _ holds
      have := numbered.2 x hx
      omega

/-- The numbers of other writes than the one that leaves are other numbers. -/
theorem seq_ne_of_ordered {l₁ l₂ : List PostedWrite} {e x : PostedWrite}
    (ordered : (l₁ ++ e :: l₂).Pairwise fun a b => a.seq < b.seq) (mem : x ∈ l₁ ++ l₂) : x.seq ≠ e.seq := by
  obtain ⟨-, behind, ahead⟩ := List.pairwise_append.1 ordered
  rcases List.mem_append.1 mem with hx | hx
  · exact (ahead x hx e (by simp)).ne
  · exact ((List.pairwise_cons.1 behind).1 x hx).ne'

theorem freeRead_orderWait (k : Nat) (d : ReadEntry) :
    (freeRead k d).state = .orderWait ↔ d.state = .orderWait ∧ (freeRead k d).holding ≠ [] := by
  by_cases ready : d.state = .orderWait ∧ (freeRead k d).holding = []
  · have : (freeRead k d).state = .ready := if_pos ready
    simp [this, ready]
  · have : (freeRead k d).state = d.state := if_neg ready
    rw [this]
    tauto

/-- A read that a leaving write held is held by the others. -/
theorem ReadEntry.heldIn.leave {l₁ l₂ : List PostedWrite} {e : PostedWrite} (held : d.heldIn (l₁ ++ e :: l₂))
    (ordered : (l₁ ++ e :: l₂).Pairwise fun a b => a.seq < b.seq) : (freeRead e.seq d).heldIn (l₁ ++ l₂) := by
  obtain ⟨waits, present, older⟩ := held
  have left : ∀ j, j ∈ (freeRead e.seq d).holding ↔ j ∈ d.holding ∧ j ≠ e.seq := by simp [freeRead]
  refine ⟨?_, fun j hj => ?_, fun x hx => ?_⟩
  · have still : (freeRead e.seq d).holding ≠ [] → d.holding ≠ [] := by
      rintro held unheld
      simp [freeRead, unheld] at held
    rw [freeRead_orderWait, waits, and_iff_right_of_imp still]
  · obtain ⟨holds, ne⟩ := (left j).1 hj
    obtain ⟨x, hx, rfl⟩ := present j holds
    refine ⟨x, ?_, rfl⟩
    have : x ≠ e := fun same => ne (congrArg _ same)
    simpa [this] using hx
  · rw [left, and_iff_left (seq_ne_of_ordered ordered hx)]
    exact older x (by simp at hx ⊢; tauto)

/-- A new read is held as R125 has it. -/
theorem newRead_heldIn {s : State} (numbered : NumberedBelow s.nextSeq s.pwq) (a : ApIndex) (ord : ReadOrder) (m : MemAddr)
    (q : Request) : (newRead s.nextSeq a ord m q (s.holdingWrites ord q.requester m)).heldIn s.pwq := by
  obtain ⟨ordered, below⟩ := numbered
  refine ⟨?_, fun k hk => ?_, fun e he => ⟨fun holds => ?_, fun ⟨_, meets⟩ => ?_⟩⟩
  · simp [newRead]
  · obtain ⟨e, he, rfl⟩ := List.mem_map.1 hk
    exact ⟨e, List.mem_of_mem_filter he, rfl⟩
  · obtain ⟨x, hx, same⟩ := List.mem_map.1 holds
    obtain ⟨hx, meets⟩ := List.mem_filter.1 hx
    obtain rfl : x = e := by
      by_contra ne
      rcases or_of_pairwise ordered hx he ne with lt | lt <;> omega
    exact ⟨below x hx, meets⟩
  · exact List.mem_map_of_mem (List.mem_filter.2 ⟨he, meets⟩)

end Held

/-! ### Each change keeps the law -/

/-- Writes may change in anything but their keys, and reads may go or change as `sameOrder` says. -/
theorem ReadOrderLaw.revise {s : State} (law : ReadOrderLaw s) {pwq : List PostedWrite} {rdt : List ReadEntry}
    (writes : pwq.map PostedWrite.orderKey = s.pwq.map PostedWrite.orderKey) (reads : ∀ d ∈ rdt, ∃ d₀ ∈ s.rdt, d.sameOrder d₀) :
    ReadOrderLaw { s with pwq := pwq, rdt := rdt } := by
  obtain ⟨numbered, held⟩ := readOrderLaw_iff.1 law
  refine readOrderLaw_iff.2 ⟨numbered.of_keys writes, fun d hd => ?_⟩
  obtain ⟨d₀, hd₀, same⟩ := reads d hd
  obtain ⟨below, held⟩ := held d₀ hd₀
  obtain ⟨⟨seq, -⟩, -⟩ := id same
  exact ⟨seq ▸ below, (held.of_sameOrder same).of_keys writes⟩

theorem ReadOrderLaw.issueWrite {s : State} (law : ReadOrderLaw s) (p : PortTagId) (e : PostedWrite) :
    ReadOrderLaw (s.issueWrite p e) :=
  law.revise (pwq := updateFirst PostedWrite.isQueued (fun (e : PostedWrite) => { e with state := .issued p }) s.pwq)
    (by rw [map_updateFirst]; exact fun _ => rfl) fun d hd => ⟨d, hd, d.sameOrder_refl⟩

/-- The read that is issued was READY: it waits for no write, neither before nor after. -/
theorem ReadOrderLaw.issueRead {s : State} (law : ReadOrderLaw s) (p : PortTagId) (d : ReadEntry) :
    ReadOrderLaw (s.issueRead p d) := by
  refine law.revise (rdt := updateFirst ReadEntry.isReady (fun (d : ReadEntry) => { d with state := .issued p }) s.rdt) rfl
    fun d hd => ?_
  rcases mem_updateFirst hd with hd | ⟨d₀, hd₀, ready, rfl⟩
  · exact ⟨d, hd, d.sameOrder_refl⟩
  · have ready : d₀.state = .ready := of_decide_eq_true ready
    exact ⟨d₀, hd₀, ⟨rfl, rfl, rfl, rfl, rfl⟩, by simp [ready]⟩

theorem ReadOrderLaw.mark {s : State} (law : ReadOrderLaw s) (n : SlotId) (pw : PostedWrite → Bool) (pr : ReadEntry → Bool) :
    ReadOrderLaw (s.mark n pw pr) := by
  refine law.revise ?_ fun d hd => ?_
  · exact map_markedWrites (fun _ _ => rfl) s n pw pr
  · obtain ⟨d₀, hd₀, rfl⟩ := List.mem_map.1 hd
    refine ⟨d₀, hd₀, ?_⟩
    split
    · exact ⟨⟨rfl, rfl, rfl, rfl, rfl⟩, .rfl⟩
    · exact d₀.sameOrder_refl

theorem ReadOrderLaw.postWrite {s : State} (law : ReadOrderLaw s) (a : ApIndex) (m : MemAddr) (q : Request) (en : BitVec 64)
    (data : List Byte) : ReadOrderLaw (s.postWrite a m q en data) := by
  obtain ⟨numbered, held⟩ := readOrderLaw_iff.1 law
  refine readOrderLaw_iff.2 ⟨numbered.post rfl, fun d hd => ?_⟩
  obtain ⟨below, held⟩ := held d hd
  exact ⟨below.trans (Nat.lt_succ_self _), held.post numbered below rfl⟩

theorem ReadOrderLaw.trackRead {s : State} (law : ReadOrderLaw s) (a : ApIndex) (ord : ReadOrder) (m : MemAddr) (q : Request) :
    ReadOrderLaw (s.trackRead a ord m q) := by
  obtain ⟨numbered, held⟩ := readOrderLaw_iff.1 law
  refine readOrderLaw_iff.2 ⟨numbered.mono (Nat.le_succ _), fun d hd => ?_⟩
  rcases List.mem_append.1 hd with hd | hd
  · obtain ⟨below, held⟩ := held d hd
    exact ⟨below.trans (Nat.lt_succ_self _), held⟩
  · obtain rfl := List.mem_singleton.1 hd
    exact ⟨Nat.lt_succ_self _, newRead_heldIn numbered a ord m q⟩

theorem ReadOrderLaw.writeLeaves {s : State} (law : ReadOrderLaw s) {l₁ l₂ : List PostedWrite} {e : PostedWrite}
    (split : s.pwq = l₁ ++ e :: l₂) : ReadOrderLaw { s with pwq := l₁ ++ l₂, rdt := freed e.seq s.rdt } := by
  obtain ⟨numbered, held⟩ := readOrderLaw_iff.1 law
  rw [split] at numbered held
  refine readOrderLaw_iff.2 ⟨numbered.sublist ((List.sublist_cons_self e l₂).append_left l₁), fun d hd => ?_⟩
  obtain ⟨d₀, hd₀, rfl⟩ := List.mem_map.1 hd
  obtain ⟨below, held⟩ := held d₀ hd₀
  exact ⟨below, held.leave numbered.1⟩

theorem EntryMove.readOrderLaw {s t : State} (move : EntryMove s t) (law : ReadOrderLaw s) : ReadOrderLaw t := by
  cases move with
  | quiet t same =>
    obtain ⟨pwq, rdt, nextSeq⟩ := entries_eq_iff.1 same
    rw [readOrderLaw_iff, pwq, rdt, nextSeq, ← readOrderLaw_iff]
    exact law
  | resets => exact readOrderLaw_iff.2 ⟨⟨.nil, fun _ h => by cases h⟩, fun _ h => by cases h⟩
  | marks n pw pr => exact law.mark n pw pr
  | discards =>
    refine law.revise rfl fun d hd => ?_
    obtain ⟨d₀, hd₀, rfl⟩ := List.mem_map.1 hd
    exact ⟨d₀, hd₀, ⟨rfl, rfl, rfl, rfl, rfl⟩, .rfl⟩
  | posts a m q en data => exact law.postWrite a m q en data
  | tracks a ord m q => exact law.trackRead a ord m q
  | writeLeaves l₁ e l₂ split => exact law.writeLeaves split
  | readLeaves l₁ d l₂ split =>
    have sub : (l₁ ++ l₂).Sublist s.rdt := split ▸ (List.sublist_cons_self d l₂).append_left l₁
    exact law.revise rfl fun x hx => ⟨x, sub.subset hx, x.sameOrder_refl⟩
  | writeIssues p e => exact law.issueWrite p e
  | readIssues p d => exact law.issueRead p d

/-- Settles O50: each change of the queue and the tracker keeps the order of the writes and of the reads behind them. -/
theorem everyStepKeepsTheOrderOfWritesAndReads : Obligations.EveryStepKeepsTheOrderOfWritesAndReads :=
  ⟨keptByStep_of_entryMove fun _ _ => EntryMove.queueOrderLaw, keptByStep_of_entryMove fun _ _ => EntryMove.readOrderLaw⟩

end Sys2Proof.Machine

/-! ## Which commands issue a read, and what is ahead of it when they do

A read that is ISSUED is held by no posted write, which is the order law of the next state. That nothing of the queue before the
step held it either is the matter of this part: a grant takes no write out of the queue, and no other command issues a read. -/

namespace Sys2Proof.Machine

/-- The numbers of the reads that are ISSUED. -/
def State.issuedReads (s : State) : Set Nat := { k | ∃ d ∈ s.rdt, d.seq = k ∧ ∃ p, d.state = .issued p }

theorem issuedReads_of_same {s t : State} (same : t.entries = s.entries) : t.issuedReads = s.issuedReads := by
  obtain ⟨-, rdt, -⟩ := entries_eq_iff.1 same
  rw [State.issuedReads, rdt, ← State.issuedReads]

theorem issuedReads_subset_of_same {s t : State} (same : t.entries = s.entries) : t.issuedReads ⊆ s.issuedReads :=
  (issuedReads_of_same same).subset

/-- Reads that each come of a read of the same number, ISSUED as soon as they are, are no newly issued ones. -/
theorem issuedReads_subset_of_origin {s t : State}
    (origin : ∀ d ∈ t.rdt, ∀ p, d.state = .issued p → ∃ d₀ ∈ s.rdt, d₀.seq = d.seq ∧ d₀.state = .issued p) :
    t.issuedReads ⊆ s.issuedReads := by
  rintro _ ⟨d, hd, rfl, p, issued⟩
  obtain ⟨d₀, hd₀, seq, issued⟩ := origin d hd p issued
  exact ⟨d₀, hd₀, seq, p, issued⟩

/-- Reads that change neither their number nor their state are issued as before. -/
theorem issuedReads_map_subset (s : State) {f : ReadEntry → ReadEntry} (seq : ∀ d, (f d).seq = d.seq)
    (state : ∀ d, (f d).state = d.state) : { s with rdt := s.rdt.map f }.issuedReads ⊆ s.issuedReads :=
  issuedReads_subset_of_origin fun d hd p issued => by
    obtain ⟨d₀, hd₀, rfl⟩ := List.mem_map.1 hd
    exact ⟨d₀, hd₀, (seq d₀).symm, state d₀ ▸ issued⟩

/-! ### What makes, frees, marks or removes a read issues none -/

section Reads

variable (s : State)

theorem mark_issuedReads (n : SlotId) (pw : PostedWrite → Bool) (pr : ReadEntry → Bool) :
    (s.mark n pw pr).issuedReads ⊆ s.issuedReads :=
  issuedReads_map_subset s (fun _ => by split <;> rfl) (fun _ => by split <;> rfl)

/-- A new read is READY or in ORDER_WAIT (R124). -/
theorem trackRead_issuedReads (a : ApIndex) (ord : ReadOrder) (m : MemAddr) (q : Request) :
    (s.trackRead a ord m q).issuedReads ⊆ s.issuedReads :=
  issuedReads_subset_of_origin fun d hd p issued => by
    rcases List.mem_append.1 hd with hd | hd
    · exact ⟨d, hd, rfl, issued⟩
    · obtain rfl := List.mem_singleton.1 hd
      dsimp only [newRead] at issued
      split at issued <;> cases issued

/-- A read that is freed becomes READY, not ISSUED (R126). -/
theorem freed_issuedReads (pwq : List PostedWrite) (k : Nat) :
    { s with pwq := pwq, rdt := freed k s.rdt }.issuedReads ⊆ s.issuedReads :=
  issuedReads_subset_of_origin fun d hd p issued => by
    obtain ⟨d₀, hd₀, rfl⟩ := List.mem_map.1 hd
    dsimp only at issued
    split at issued
    · cases issued
    · exact ⟨d₀, hd₀, rfl, issued⟩

theorem enter_issuedReads (a : ApIndex) (ord : ReadOrder) (m : MemAddr) (q : Request) :
    (s.enter a ord m q).issuedReads ⊆ s.issuedReads := by
  obtain ⟨en, data, -, -, h⟩ | ⟨-, -, h⟩ | ⟨-, h⟩ | ⟨-, h⟩ := enter_cases s a ord m q <;> rw [h]
  · exact subset_rfl
  · exact trackRead_issuedReads s a ord m q
  · exact subset_rfl
  · exact subset_rfl

/-! ### Arrivals (R51) -/

theorem aborted_issuedReads (q : Request) (x : LinkReply) (f : FaultRecord) :
    ((s.respond q.requester q.tag x).capture q.requester f).issuedReads ⊆ s.issuedReads :=
  issuedReads_subset_of_same (aborted_entries s q x f)

theorem translate_issuedReads (a : ApIndex) (g : Grant) (q : Request) : (s.translate a g q).issuedReads ⊆ s.issuedReads := by
  unfold State.translate
  split
  · exact enter_issuedReads ..
  · dsimp only
    split
    · unfold State.hit
      split
      · exact enter_issuedReads ..
      · exact aborted_issuedReads ..
    · exact issuedReads_subset_of_same (miss_entries ..)

theorem checkArrival_issuedReads (q : Request) : (s.checkArrival q).issuedReads ⊆ s.issuedReads := by
  unfold State.checkArrival
  split
  · split
    · unfold State.checkAdmission
      split
      · exact subset_rfl
      · split
        · exact aborted_issuedReads ..
        · split
          · exact translate_issuedReads ..
          · exact aborted_issuedReads ..
    · exact subset_rfl
  · exact aborted_issuedReads ..

/-! ### Answers and expiries (R115, R129, R97) -/

theorem departWrite_issuedReads (p : PortTagId) (o : PortOutcome) : (s.departWrite p o).issuedReads ⊆ s.issuedReads := by
  rcases split_at_first (PostedWrite.holdsTag p) s.pwq with none | ⟨l₁, e, l₂, first⟩
  · rw [State.departWrite, find_none _ none]
  · rw [departWrite_split first, issuedReads_of_same ((tellAll_entries ..).trans (captureLoss_entries ..))]
    exact freed_issuedReads s (l₁ ++ l₂) e.seq

theorem departRead_issuedReads (p : PortTagId) (o : PortOutcome) : (s.departRead p o).issuedReads ⊆ s.issuedReads := by
  rcases split_at_first (ReadEntry.holdsTag p) s.rdt with none | ⟨l₁, d, l₂, first⟩
  · rw [State.departRead, find_none _ none]
  · rw [departRead_split first,
      issuedReads_of_same ((tellAll_entries ..).trans ((captureLoss_entries ..).trans (answerRead_entries ..)))]
    have sub : (l₁ ++ l₂).Sublist s.rdt := first.1 ▸ (List.sublist_cons_self d l₂).append_left l₁
    exact issuedReads_subset_of_origin fun x hx p issued => ⟨x, sub.subset hx, rfl, issued⟩

theorem resumeWaiter_issuedReads (pe : PageEntry) (w : Walk) (q : Request) :
    (State.resumeWaiter pe w q s).issuedReads ⊆ s.issuedReads := by
  unfold State.resumeWaiter
  split
  · exact enter_issuedReads ..
  · exact aborted_issuedReads ..

/-- Turns that issue no read together issue none. -/
theorem finishWaiters_issuedReads {finish : Walk → Request → State → State}
    (turn : ∀ w q u, (finish w q u).issuedReads ⊆ u.issuedReads) (p : PortTagId) (k : Nat) :
    (State.finishWaiters p finish k s).issuedReads ⊆ s.issuedReads :=
  finishWaiters_keeps (fun u => u.issuedReads ⊆ s.issuedReads)
    (fun _ w q _ none _ _ => (turn w q _).trans none) k s subset_rfl

theorem completeWalk_issuedReads (p : PortTagId) (w : Walk) (o : PortOutcome) :
    (s.completeWalk p w o).issuedReads ⊆ s.issuedReads := by
  have noPage : ∀ w q u, (State.noPageWaiter w q u).issuedReads ⊆ u.issuedReads := fun _ _ _ => aborted_issuedReads ..
  have failed : ∀ qual w q u, (State.walkErrorWaiter qual w q u).issuedReads ⊆ u.issuedReads :=
    fun _ _ _ _ => aborted_issuedReads ..
  cases o with
  | ok data =>
    unfold State.completeWalk
    dsimp only
    split
    · exact (finishWaiters_issuedReads _ (fun w q u => resumeWaiter_issuedReads u _ w q) p _).trans
        (issuedReads_subset_of_same (endPreloadOf_entries ..))
    · exact (finishWaiters_issuedReads _ noPage p _).trans (issuedReads_subset_of_same (endPreloadOf_entries ..))
  | error => exact (finishWaiters_issuedReads _ (failed .error) p _).trans (issuedReads_subset_of_same (endPreloadOf_entries ..))
  | timeout =>
    exact (finishWaiters_issuedReads _ (failed .timeout) p _).trans (issuedReads_subset_of_same (endPreloadOf_entries ..))

theorem ownerTakes_issuedReads (p : PortTagId) (k : PortKind) (o : PortOutcome) :
    (s.ownerTakes p k o).issuedReads ⊆ s.issuedReads := by
  cases k with
  | walk =>
    change (s.departWalk p o).issuedReads ⊆ s.issuedReads
    unfold State.departWalk
    split
    · exact subset_rfl
    · split
      · exact subset_rfl
      · exact completeWalk_issuedReads ..
  | write => exact departWrite_issuedReads s p o
  | read => exact departRead_issuedReads s p o

end Reads

/-! ### Takes (R136) -/

section Takes

variable {s : State}

theorem takeOf_issuedReads {c : Option Command} {body : SlotId → State} (taken : ∀ n, (body n).issuedReads ⊆ s.issuedReads) :
    (s.takeOf c body).issuedReads ⊆ s.issuedReads := by
  obtain ⟨n, -, -, h⟩ | h := takeOf_cases s c body <;> rw [h]
  exact taken n

theorem takeRequester_issuedReads {c : Option Command} {body : SlotId → RequesterId → State}
    (taken : ∀ n r, (body n r).issuedReads ⊆ s.issuedReads) :
    (s.takeOf c fun n => s.takeRequester n (body n)).issuedReads ⊆ s.issuedReads :=
  takeOf_issuedReads fun n => by
    unfold State.takeRequester
    split
    · exact subset_rfl
    · exact taken n _

variable (n : SlotId)

/-- A take that marks the entries in its scope, and then waits or ends, issues no read. -/
theorem waitOrComplete_issuedReads {u : State} {pw : PostedWrite → Bool} {pr : ReadEntry → Bool}
    (marked : u.entries = (s.mark n pw pr).entries) : (u.waitOrComplete n).issuedReads ⊆ s.issuedReads :=
  (issuedReads_subset_of_same ((waitOrComplete_entries u n).trans marked)).trans (mark_issuedReads s n pw pr)

/-- A take that drains an aperture answers the walks' waiters before it marks. -/
theorem drains_issuedReads (u : State) (e : TcEntry → Bool) (p : Walk → Bool) (x : LinkReply) (pw : PostedWrite → Bool)
    (pr : ReadEntry → Bool) (v v' : Word) :
    ((((((u.dropEntries e).orphan p x).mark n pw pr).writeWord n 5 v).writeWord n 6 v').waitOrComplete n).issuedReads ⊆
      u.issuedReads := by
  have orphaned : ((u.dropEntries e).orphan p x).issuedReads ⊆ u.issuedReads := issuedReads_subset_of_same (orphan_entries ..)
  have drained : ∀ t : State, ((((t.mark n pw pr).writeWord n 5 v).writeWord n 6 v').waitOrComplete n).issuedReads ⊆ t.issuedReads :=
    fun _ => waitOrComplete_issuedReads n rfl
  exact (drained _).trans orphaned

theorem takeApRetire_issuedReads : (s.takeApRetire n).issuedReads ⊆ s.issuedReads := by
  unfold State.takeApRetire
  split
  · exact subset_rfl
  · split
    · exact subset_rfl
    · exact subset_rfl
    · split
      · exact drains_issuedReads ..
      · exact subset_rfl

theorem takeApInvalidate_issuedReads : (s.takeApInvalidate n).issuedReads ⊆ s.issuedReads := by
  unfold State.takeApInvalidate
  dsimp only
  split
  · exact subset_rfl
  · split
    · split
      · exact drains_issuedReads ..
      · exact subset_rfl
    · exact subset_rfl

theorem takeFlush_issuedReads : (s.takeFlush n).issuedReads ⊆ s.issuedReads :=
  waitOrComplete_issuedReads n (pw := fun _ => true) (pr := fun _ => false) rfl

theorem drainRequester_issuedReads (u : State) (r : RequesterId) : (u.drainRequester n r).issuedReads ⊆ u.issuedReads :=
  waitOrComplete_issuedReads (s := u) n rfl

theorem halt_issuedReads (r : RequesterId) : (s.halt n r).issuedReads ⊆ s.issuedReads := by
  unfold State.halt
  dsimp only
  split
  · exact (drainRequester_issuedReads ..).trans (issuedReads_subset_of_same (release_entries ..))
  · exact drainRequester_issuedReads ..
  all_goals exact subset_rfl

end Takes

/-! ### The window -/

/-- A part reset leaves no read. -/
theorem partReset_issuedReads (s : State) : s.partReset.issuedReads ⊆ s.issuedReads :=
  issuedReads_subset_of_origin fun _ hd => absurd hd List.not_mem_nil

theorem hostWriteAt_issuedReads (s : State) (w : WindowWord) (v : Word) : (s.hostWriteAt w v).issuedReads ⊆ s.issuedReads := by
  obtain h | h := hostWriteAt_cases s w v <;> rw [h]
  · exact partReset_issuedReads s
  · exact subset_rfl

theorem hostWrite_issuedReads (s : State) (w : WindowWord) (v : Word) : (s.hostWrite w v).issuedReads ⊆ s.issuedReads := by
  unfold State.hostWrite
  split
  · exact subset_rfl
  · exact hostWriteAt_issuedReads s w v

theorem hostAccess_issuedReads (s : State) (off : Nat) (bytes : List Byte) : (s.hostAccess off bytes).issuedReads ⊆ s.issuedReads := by
  unfold State.hostAccess
  split
  · exact subset_rfl
  · split
    · exact hostWriteAt_issuedReads ..
    · split
      · exact subset_rfl
      · exact subset_rfl

/-! ### The commands -/

/-- Only a grant issues a read (R157). -/
theorem exec_issuedReads {c : Instr} {s t : State} (h : exec c s = .next t) (noGrant : ∀ p, c ≠ .grant p) :
    t.issuedReads ⊆ s.issuedReads := by
  cases c with
  | grant p => exact absurd rfl (noGrant p)
  | arrival q =>
    cases h
    split
    · exact subset_rfl
    · split
      · exact issuedReads_subset_of_same (capture_entries ..)
      · exact checkArrival_issuedReads (s.setLinkTag q.requester q.tag .busy) q
  | linkReset => cases h; exact issuedReads_map_subset s (fun _ => rfl) fun _ => rfl
  | partReset cause => cases cause <;> cases h <;> exact partReset_issuedReads s
  | answer p a =>
    cases h
    split
    · exact subset_rfl
    · exact subset_rfl
    · exact ownerTakes_issuedReads (s.setPortTag p .free) ..
  | expiry p =>
    cases h
    split
    · split
      · exact ownerTakes_issuedReads (s.setPortTag p .quarantined) ..
      · exact subset_rfl
    · exact subset_rfl
    · exact subset_rfl
  | apSet => cases h; exact takeOf_issuedReads fun n => issuedReads_subset_of_same (takeApSet_entries s n)
  | apRetire => cases h; exact takeOf_issuedReads takeApRetire_issuedReads
  | apInvalidate => cases h; exact takeOf_issuedReads takeApInvalidate_issuedReads
  | queryAperture => cases h; exact takeOf_issuedReads fun n => issuedReads_subset_of_same (takeQueryAperture_entries s n)
  | reqEnable => cases h; exact takeRequester_issuedReads fun n r => issuedReads_subset_of_same (enable_entries s n r)
  | reqDisable => cases h; exact takeRequester_issuedReads fun n r => issuedReads_subset_of_same (disable_entries s n r)
  | reqHalt => cases h; exact takeRequester_issuedReads halt_issuedReads
  | reqResume => cases h; exact takeRequester_issuedReads fun n r => issuedReads_subset_of_same (resume_entries s n r)
  | faultClear | queryRequester => cases h; exact takeRequester_issuedReads fun _ _ => subset_rfl
  | tcPreload => cases h; exact takeOf_issuedReads fun n => issuedReads_subset_of_same (takeTcPreload_entries s n)
  | tcUnpin => cases h; exact takeOf_issuedReads fun n => issuedReads_subset_of_same (takeTcUnpin_entries s n)
  | queryTc => cases h; exact takeOf_issuedReads fun n => issuedReads_subset_of_same (takeQueryTc_entries s n)
  | flush => cases h; exact takeOf_issuedReads takeFlush_issuedReads
  | badOp => cases h; exact takeOf_issuedReads fun _ => subset_rfl
  | apRetireCompletion | apInvalidateCompletion | flushCompletion | reqHaltCompletion =>
    cases h
    exact issuedReads_subset_of_same (completeIf_entries ..)
  | tcPreloadCompletion n o =>
    cases h
    split
    · exact issuedReads_subset_of_same (endPreload_entries ..)
    · exact subset_rfl
  | start | ack | word7Action3 | slotWordWrite | linkEnable | softReset | intStatusWrite | intEnableWrite | responseLimitWrite =>
    cases h
    exact hostWrite_issuedReads ..
  | registerWrite => cases h; exact hostAccess_issuedReads ..
  | resetNRelease => cases h; exact subset_rfl

/-- A grant takes no write out of the queue (R111). -/
theorem arbitrate_orderKeys (s : State) (p : PortTagId) :
    (s.arbitrate p).pwq.map PostedWrite.orderKey = s.pwq.map PostedWrite.orderKey := by
  have write : ∀ e, (s.issueWrite p e).pwq.map PostedWrite.orderKey = s.pwq.map PostedWrite.orderKey :=
    fun _ => map_updateFirst (f := fun (e : PostedWrite) => { e with state := .issued p }) (fun _ => rfl) s.pwq
  obtain ⟨w, -, h⟩ | ⟨-, e, -, ⟨h, -⟩ | ⟨h, -⟩⟩ | ⟨-, d, -, ⟨h, -⟩ | ⟨h, -⟩⟩ | h := arbitrate_cases s p <;> rw [h]
  · rfl
  · exact write e
  · exact write e
  · rfl
  · rfl

/-- A step that issues a read leaves the queue's writes where they are. -/
theorem step_issues_or_keepsWrites {s s' : State} (h : step s = .next s') :
    s'.issuedReads ⊆ s.issuedReads ∨ s'.pwq.map PostedWrite.orderKey = s.pwq.map PostedWrite.orderKey := by
  obtain ⟨c, rest, -, h⟩ | ⟨-, rfl⟩ := step_cases h
  · by_cases grant : ∃ p, c = .grant p
    · obtain ⟨p, rfl⟩ := grant
      cases h
      split
      · exact .inr (arbitrate_orderKeys { s with pending := rest } p)
      · exact .inr rfl
    · exact .inl (exec_issuedReads (s := { s with pending := rest }) h fun p isGrant => grant ⟨p, isGrant⟩)
  · exact .inl subset_rfl

/-! ### Nothing ahead of an ISSUED read (R127) -/

/-- No older write of the queue meets the ordering of a read that waits for none. -/
theorem ReadEntry.heldIn.unheld {d : ReadEntry} {l : List PostedWrite} (held : d.heldIn l) (state : d.state ≠ .orderWait) :
    ∀ e ∈ l, e.seq < d.seq → holdsRead d.ordering d.requester d.memAddr e = false := by
  obtain ⟨waits, -, older⟩ := held
  have unheld : d.holding = [] := not_not.1 fun held => state (waits.2 held)
  intro e he before
  rw [← Bool.not_eq_true]
  intro meets
  exact List.not_mem_nil (unheld ▸ (older e he).2 ⟨before, meets⟩)

/-- Settles O58: the next state's order law says it of the queue after the step, which has the writes of the queue before it. -/
theorem readIsIssuedOnlyBehindTheWritesItFollows : Obligations.ReadIsIssuedOnlyBehindTheWritesItFollows := by
  intro s s' d p law h hd issued fresh
  have law' : ReadOrderLaw s' := everyStepKeepsTheOrderOfWritesAndReads.2 s s' law h
  have held : d.heldIn s'.pwq := ((readOrderLaw_iff.1 law').2 d hd).2
  have state : d.state ≠ .orderWait := by simp [issued]
  refine ⟨?_, held.unheld state⟩
  obtain noneIssued | keys := step_issues_or_keepsWrites h
  · obtain ⟨x, hx, seq, p', wasIssued⟩ := noneIssued ⟨d, hd, rfl, p, issued⟩
    exact absurd wasIssued (fresh x hx seq p')
  · exact (held.of_keys keys.symm).unheld state

end Sys2Proof.Machine

/-! ## Every step keeps a slot WAITING exactly while an entry bears its mark -/

namespace Sys2Proof.Machine

/-! ### What marks no entry and removes none -/

/-- Whose marks are borne stands in the mark sets of the queue and the tracker. -/
theorem bears_of_marks {s t : State} (writes : t.pwq.map PostedWrite.marks = s.pwq.map PostedWrite.marks)
    (reads : t.rdt.map ReadEntry.marks = s.rdt.map ReadEntry.marks) (n : SlotId) : t.bears n = s.bears n := by
  have inMarks : ∀ u : State, u.bears n =
      ((u.pwq.map PostedWrite.marks).any (fun k => k.get n) || (u.rdt.map ReadEntry.marks).any fun k => k.get n) := fun u => by
    simp only [State.bears, List.any_map]
    rfl
  rw [inMarks, inMarks, writes, reads]

theorem bears_of_entries {s t : State} (same : t.entries = s.entries) (n : SlotId) : t.bears n = s.bears n := by
  obtain ⟨pwq, rdt, -⟩ := entries_eq_iff.1 same
  simp only [State.bears, pwq, rdt]

section Bears

variable (s : State) (n : SlotId)

/-- A new entry has an empty mark set (R108, R124). -/
theorem enter_bears (a : ApIndex) (ord : ReadOrder) (m : MemAddr) (q : Request) : (s.enter a ord m q).bears n = s.bears n := by
  obtain ⟨en, data, -, -, h⟩ | ⟨-, -, h⟩ | ⟨-, h⟩ | ⟨-, h⟩ := enter_cases s a ord m q <;> rw [h]
  · simp [State.bears, State.postWrite, newWrite]
  · simp [State.bears, State.trackRead, newRead]
  · rfl
  · rfl

theorem aborted_bears (q : Request) (x : LinkReply) (f : FaultRecord) :
    ((s.respond q.requester q.tag x).capture q.requester f).bears n = s.bears n := bears_of_entries (aborted_entries ..) n

theorem translate_bears (a : ApIndex) (g : Grant) (q : Request) : (s.translate a g q).bears n = s.bears n := by
  unfold State.translate
  split
  · exact enter_bears ..
  · dsimp only
    split
    · unfold State.hit
      split
      · exact enter_bears ..
      · exact aborted_bears ..
    · exact bears_of_entries (miss_entries ..) n

theorem checkArrival_bears (q : Request) : (s.checkArrival q).bears n = s.bears n := by
  unfold State.checkArrival
  split
  · split
    · unfold State.checkAdmission
      split
      · rfl
      · split
        · exact aborted_bears ..
        · split
          · exact translate_bears ..
          · exact aborted_bears ..
    · rfl
  · exact aborted_bears ..

/-- An entry that is issued keeps its marks. -/
theorem arbitrate_bears (p : PortTagId) : (s.arbitrate p).bears n = s.bears n := by
  have write : ∀ e, (s.issueWrite p e).bears n = s.bears n := fun _ =>
    bears_of_marks (s := s) (t := s.issueWrite p _)
      (map_updateFirst (f := fun (e : PostedWrite) => { e with state := .issued p }) (fun _ => rfl) s.pwq) rfl n
  have read : ∀ d, (s.issueRead p d).bears n = s.bears n := fun _ =>
    bears_of_marks (s := s) (t := s.issueRead p _) rfl
      (map_updateFirst (f := fun (d : ReadEntry) => { d with state := .issued p }) (fun _ => rfl) s.rdt) n
  obtain ⟨w, -, h⟩ | ⟨-, e, -, ⟨h, -⟩ | ⟨h, -⟩⟩ | ⟨-, d, -, ⟨h, -⟩ | ⟨h, -⟩⟩ | h := arbitrate_cases s p <;> rw [h]
  · rfl
  · exact write e
  · exact write e
  · exact read d
  · exact read d

theorem resumeWaiter_bears (pe : PageEntry) (w : Walk) (q : Request) : (State.resumeWaiter pe w q s).bears n = s.bears n := by
  unfold State.resumeWaiter
  split
  · exact enter_bears ..
  · exact aborted_bears ..

theorem finishWaiters_bears {finish : Walk → Request → State → State} (turn : ∀ w q u, (finish w q u).bears n = u.bears n)
    (p : PortTagId) (k : Nat) : (State.finishWaiters p finish k s).bears n = s.bears n :=
  finishWaiters_keeps (fun u => u.bears n = s.bears n) (fun _ w q _ same _ _ => (turn w q _).trans same) k s rfl

theorem completeWalk_bears (p : PortTagId) (w : Walk) (o : PortOutcome) : (s.completeWalk p w o).bears n = s.bears n := by
  have noPage : ∀ w q u, (State.noPageWaiter w q u).bears n = u.bears n := fun _ q u => aborted_bears u n q ..
  have failed : ∀ qual w q u, (State.walkErrorWaiter qual w q u).bears n = u.bears n := fun _ _ q u => aborted_bears u n q ..
  have ended : ∀ (u : State) o, (u.endPreloadOf w o).bears n = u.bears n := fun u o =>
    bears_of_entries (endPreloadOf_entries u w o) n
  cases o with
  | ok data =>
    unfold State.completeWalk
    dsimp only
    split
    · exact (finishWaiters_bears _ n (fun w q u => resumeWaiter_bears u n _ w q) p _).trans (ended ..)
    · exact (finishWaiters_bears _ n noPage p _).trans (ended ..)
  | error => exact (finishWaiters_bears _ n (failed .error) p _).trans (ended ..)
  | timeout => exact (finishWaiters_bears _ n (failed .timeout) p _).trans (ended ..)

theorem departWalk_bears (p : PortTagId) (o : PortOutcome) : (s.departWalk p o).bears n = s.bears n := by
  unfold State.departWalk
  split
  · rfl
  · split
    · rfl
    · exact completeWalk_bears ..

/-- A take's marks are those of its own slot. -/
theorem mark_bears_ne {m : SlotId} (other : n ≠ m) (pw : PostedWrite → Bool) (pr : ReadEntry → Bool) :
    (s.mark n pw pr).bears m = s.bears m := by
  have writes : ∀ e, (if pw e = true then { e with marks := addMark n e.marks } else e).marks.get m = e.marks.get m := fun e => by
    split <;> simp [other]
  have reads : ∀ d, (if pr d = true then { d with marks := addMark n d.marks } else d).marks.get m = d.marks.get m := fun d => by
    split <;> simp [other]
  simp only [State.bears, State.mark, List.any_map, Function.comp_def, writes, reads]

end Bears

/-! ### What begins and ends no wait -/

section Waiting

variable (s : State) (n : SlotId)

/-- A preload that ends was RUNNING. -/
theorem endPreload_waiting (m : SlotId) (o : PreloadEnd) :
    ((s.endPreload m o).slots.get n).state = .waiting ↔ (s.slots.get n).state = .waiting := by
  obtain ⟨running, words, st, code, q, ends, e⟩ | ⟨-, e⟩ := endPreload_cases s m o <;> rw [e]
  rw [withEnd_slot]
  split
  · next same =>
    subst same
    refine iff_of_false (fun waiting => ends.status_iff.1 (.inr (.inr waiting))) (by simp [running])
  · rfl

theorem endPreloadOf_waiting (w : Walk) (o : PreloadEnd) :
    ((s.endPreloadOf w o).slots.get n).state = .waiting ↔ (s.slots.get n).state = .waiting := by
  unfold State.endPreloadOf
  split
  · rfl
  · exact endPreload_waiting ..

theorem completeWalk_waiting (p : PortTagId) (w : Walk) (o : PortOutcome) :
    ((s.completeWalk p w o).slots.get n).state = .waiting ↔ (s.slots.get n).state = .waiting := by
  have turns : ∀ {finish : Walk → Request → State → State} (k : Nat) (u : State) (o : PreloadEnd), Finisher finish →
      ((((State.finishWaiters p finish k (u.endPreloadOf w o)).removeWalk p).slots.get n).state = .waiting ↔
        (u.slots.get n).state = .waiting) := fun {finish} k u o fin => by
    have same : ((State.finishWaiters p finish k (u.endPreloadOf w o)).removeWalk p).slots = (u.endPreloadOf w o).slots :=
      finishWaiters_slots (fun w q v => (fin.keeps w q v).2.1) k _
    rw [same]
    exact endPreloadOf_waiting ..
  cases o with
  | ok data =>
    unfold State.completeWalk
    dsimp only
    split
    · exact turns _ (State.install (s.useFree Config.pageEntryBytes data) w _) _ (resumeWaiter_finisher _)
    · exact turns _ (s.useFree Config.pageEntryBytes data) _ noPageWaiter_finisher
  | error => exact turns _ s _ (walkErrorWaiter_finisher .error)
  | timeout => exact turns _ s _ (walkErrorWaiter_finisher .timeout)

theorem departWalk_waiting (p : PortTagId) (o : PortOutcome) :
    ((s.departWalk p o).slots.get n).state = .waiting ↔ (s.slots.get n).state = .waiting := by
  unfold State.departWalk
  split
  · rfl
  · split
    · rfl
    · exact completeWalk_waiting ..

end Waiting

/-! ### The law through the commands -/

theorem drainLaw_reset : DrainLaw State.reset := fun n => by simp [State.bears, State.reset]

/-- The part after a part reset, whatever the level of the pin. -/
theorem drainLaw_partReset (s : State) : DrainLaw s.partReset := drainLaw_reset

section Drain

variable {s : State} (law : DrainLaw s)

include law

theorem DrainLaw.of_same {t : State} (borne : ∀ n, t.bears n = s.bears n)
    (waiting : ∀ n, (t.slots.get n).state = .waiting ↔ (s.slots.get n).state = .waiting) : DrainLaw t := fun n => by
  rw [borne, waiting]
  exact law n

theorem DrainLaw.of_slots {t : State} (borne : ∀ n, t.bears n = s.bears n) (slots : t.slots = s.slots) : DrainLaw t :=
  law.of_same borne fun n => by rw [slots]

/-- No entry bears the mark of a slot that does not wait. -/
theorem DrainLaw.unborne {n : SlotId} (idle : (s.slots.get n).state ≠ .waiting) : s.bears n = false := by
  rw [← Bool.not_eq_true]
  exact fun borne => idle ((law n).1 borne)

/-- A command whose mark no entry bears may leave its state, but not for WAITING. -/
theorem DrainLaw.ends {t : State} {n : SlotId} (pending : (s.slots.get n).state = .pending) (entries : t.entries = s.entries)
    (others : ∀ m, n ≠ m → t.slots.get m = s.slots.get m) (ended : (t.slots.get n).state ≠ .waiting) : DrainLaw t := fun m => by
  rw [bears_of_entries entries]
  by_cases own : n = m
  · subst own
    exact iff_of_false (by simp [law.unborne (n := n) (by simp [pending])]) ended
  · rw [others m own]
    exact law m

/-- A take that has marked waits where it has marked an entry, and is complete where it has not (R138). -/
theorem DrainLaw.waitOrComplete {t : State} {n : SlotId} (others : ∀ m, n ≠ m → t.slots.get m = s.slots.get m)
    (borne : ∀ m, n ≠ m → t.bears m = s.bears m) : DrainLaw (t.waitOrComplete n) := fun m => by
  rw [bears_of_entries (waitOrComplete_entries t n)]
  by_cases own : n = m
  · subst own
    unfold State.waitOrComplete
    split
    · next waits => simp [waits]
    · next free => exact iff_of_false free (by simp [complete_slot_done])
  · rw [waitOrComplete_slot_ne t own, others m own, borne m own]
    exact law m

/-- A command marks the entries in its scope, behind changes that leave the entries as they are, and waits or is complete. -/
theorem DrainLaw.drains {u t : State} {n : SlotId} {pw : PostedWrite → Bool} {pr : ReadEntry → Bool} (entries : u.entries = s.entries)
    (marked : t.entries = (u.mark n pw pr).entries) (others : ∀ m, n ≠ m → t.slots.get m = s.slots.get m) :
    DrainLaw (t.waitOrComplete n) :=
  law.waitOrComplete others fun m other => by
    rw [bears_of_entries marked, mark_bears_ne u n other, bears_of_entries entries]

/-- A command that drains an aperture orphans the walks in its scope before it marks. -/
theorem DrainLaw.drainsAperture (n : SlotId) (e : TcEntry → Bool) (p : Walk → Bool) (x : LinkReply) (pw : PostedWrite → Bool)
    (pr : ReadEntry → Bool) (v v' : Word) :
    DrainLaw ((((((s.dropEntries e).orphan p x).mark n pw pr).writeWord n 5 v).writeWord n 6 v').waitOrComplete n) :=
  law.drains (u := (s.dropEntries e).orphan p x) (orphan_entries ..) rfl fun m other => by
    simp only [writeWord_slot, if_neg other, mark_slots, orphan_slots]
    rfl

/-! ### Departures (R137, R138) -/

omit law in
/-- A slot that is told waits on exactly while an entry bears its mark. -/
theorem tell_waiting_iff {n : SlotId} (borne : s.bears n = true → (s.slots.get n).state = .waiting) (lost : Bool) :
    ((s.tell lost n).slots.get n).state = .waiting ↔ s.bears n = true := by
  obtain ⟨idle, e⟩ | ⟨waiting, held, e⟩ | ⟨free, a, g, -, -, e⟩ | ⟨free, r, -, -, e⟩ | ⟨-, free, -, -, e⟩ := tell_cases s lost n <;>
    rw [e]
  · exact iff_of_false idle fun held => idle (borne held)
  · simp [waiting, held]
  all_goals simp [free]

omit law in
theorem tell_bears (lost : Bool) (n m : SlotId) : (s.tell lost n).bears m = s.bears m := by
  rw [tell_frame]
  rfl

omit law in
/-- After a departure a slot whose mark is still borne waits, and one that waits with no bearer left is about to be told. -/
theorem drainLaw_tellAll (lost : Bool) {marks : MarkSet} {ns : List SlotId}
    (borne : ∀ n, s.bears n = true → (s.slots.get n).state = .waiting)
    (untold : ∀ n, n ∉ ns ∨ marks.get n = false → (s.slots.get n).state = .waiting → s.bears n = true) :
    DrainLaw (s.tellAll lost marks ns) := by
  induction ns generalizing s with
  | nil => exact fun n => ⟨borne n, untold n (.inl List.not_mem_nil)⟩
  | cons m ns ih =>
    rw [State.tellAll]
    split
    · next marked =>
      refine ih (fun n held => ?_) fun n out waiting => ?_ <;> rw [tell_bears] at *
      · by_cases own : m = n
        · exact own ▸ (tell_waiting_iff (borne m) lost).2 (own ▸ held)
        · rw [tell_slot_ne s lost own]
          exact borne n held
      · by_cases own : m = n
        · exact own ▸ (tell_waiting_iff (borne m) lost).1 (own ▸ waiting)
        · rw [tell_slot_ne s lost own] at waiting
          refine untold n (out.imp_left fun notIn => ?_) waiting
          simpa [Ne.symm own] using notIn
    · next unmarked =>
      refine ih borne fun n out => untold n ?_
      by_cases own : m = n
      · exact .inr (by simpa [own] using unmarked)
      · exact out.imp_left fun notIn => by simpa [Ne.symm own] using notIn

/-- An entry leaves, and the slots of its mark set are told. -/
theorem DrainLaw.departs {u : State} {marks : MarkSet} (slots : u.slots = s.slots)
    (left : ∀ n, s.bears n = (marks.get n || u.bears n)) (lost : Bool) : DrainLaw (u.tellAll lost marks allSlots) := by
  refine drainLaw_tellAll lost (fun n held => ?_) fun n out waiting => ?_
  · rw [slots]
    exact (law n).1 (by simp [left, held])
  · rw [slots] at waiting
    have unmarked : marks.get n = false := out.resolve_left fun notIn => notIn (mem_allSlots n)
    simpa [left, unmarked] using (law n).2 waiting

theorem DrainLaw.departWrite (p : PortTagId) (o : PortOutcome) : DrainLaw (s.departWrite p o) := by
  rcases split_at_first (PostedWrite.holdsTag p) s.pwq with none | ⟨l₁, e, l₂, first⟩
  · rw [State.departWrite, find_none _ none]
    exact law
  · have left : SameCommands s { s with pwq := l₁ ++ l₂, rdt := freed e.seq s.rdt } := ⟨rfl, rfl, rfl, rfl, fun _ h => h⟩
    rw [departWrite_split first]
    refine law.departs (left.captureLoss ..).slots (fun n => ?_) _
    rw [bears_of_entries (captureLoss_entries ..)]
    simp [State.bears, first.1, freed, Function.comp_def, Bool.or_assoc, Bool.or_left_comm]

theorem DrainLaw.departRead (p : PortTagId) (o : PortOutcome) : DrainLaw (s.departRead p o) := by
  rcases split_at_first (ReadEntry.holdsTag p) s.rdt with none | ⟨l₁, d, l₂, first⟩
  · rw [State.departRead, find_none _ none]
    exact law
  · have left : SameCommands s ({ s with rdt := l₁ ++ l₂ }.answerRead d o) := by
      rw [answerRead_frame]
      exact ⟨rfl, rfl, rfl, rfl, fun _ h => h⟩
    rw [departRead_split first]
    refine law.departs (left.captureLoss ..).slots (fun n => ?_) _
    rw [bears_of_entries ((captureLoss_entries ..).trans (answerRead_entries ..))]
    simp [State.bears, first.1, Bool.or_left_comm]

theorem DrainLaw.ownerTakes (p : PortTagId) (k : PortKind) (o : PortOutcome) : DrainLaw (s.ownerTakes p k o) := by
  cases k with
  | walk => exact law.of_same (departWalk_bears s · p o) (departWalk_waiting s · p o)
  | write => exact law.departWrite p o
  | read => exact law.departRead p o

/-! ### Takes (R136, R170) -/

theorem DrainLaw.takeOf {c : Option Command} {body : SlotId → State}
    (taken : ∀ n, (s.slots.get n).state = .pending → DrainLaw (body n)) : DrainLaw (s.takeOf c body) := by
  obtain ⟨n, next, -, h⟩ | h := takeOf_cases s c body <;> rw [h]
  · exact taken n (nextTake_some next).2
  · exact law

theorem DrainLaw.takeRequester {c : Option Command} {body : SlotId → RequesterId → State}
    (taken : ∀ n r, (s.slots.get n).state = .pending → DrainLaw (body n r)) :
    DrainLaw (s.takeOf c fun n => s.takeRequester n (body n)) :=
  law.takeOf fun n pending => by
    unfold State.takeRequester
    split
    · exact law.ends pending rfl (fun m other => by simp [other]) (by simp)
    · exact taken n _ pending

section Take

variable {n : SlotId} (pending : (s.slots.get n).state = .pending)

include pending

theorem DrainLaw.failSlot (code : Status) : DrainLaw (s.failSlot n code) :=
  law.ends pending rfl (fun m other => by simp [other]) (by simp)

theorem DrainLaw.takeApSet : DrainLaw (s.takeApSet n) := by
  refine law.ends pending (takeApSet_entries s n) (fun m other => takeApSet_slot_ne s other) ?_
  unfold State.takeApSet State.grantAperture
  dsimp only
  repeat' split
  all_goals simp

theorem DrainLaw.takeQueryAperture : DrainLaw (s.takeQueryAperture n) := by
  unfold State.takeQueryAperture
  split
  · exact law.failSlot pending _
  · exact law.ends pending rfl (fun m other => by simp [other]) (by simp)

theorem DrainLaw.takeTcPreload : DrainLaw (s.takeTcPreload n) := by
  refine law.ends pending (takeTcPreload_entries s n) (fun m other => takeTcPreload_slot_ne s other) ?_
  unfold State.takeTcPreload State.preloadPresent State.preloadWalk
  dsimp only
  repeat' split
  all_goals simp

theorem DrainLaw.takeTcUnpin : DrainLaw (s.takeTcUnpin n) := by
  unfold State.takeTcUnpin
  dsimp only
  split
  · exact law.failSlot pending _
  · split
    · exact law.ends pending rfl (fun m other => by simp [other]) (by simp)
    · exact law.failSlot pending _

theorem DrainLaw.takeQueryTc : DrainLaw (s.takeQueryTc n) := by
  unfold State.takeQueryTc
  dsimp only
  split
  · exact law.ends pending rfl (fun m other => by simp [other]) (by simp)
  · exact law.failSlot pending _

theorem DrainLaw.takeApRetire : DrainLaw (s.takeApRetire n) := by
  unfold State.takeApRetire
  split
  · exact law.failSlot pending _
  · split
    · exact law.failSlot pending _
    · exact law.failSlot pending _
    · split
      · exact DrainLaw.drainsAperture (s := s.setAperture _ _) law n _ _ _ _ _ _ _
      · exact law.failSlot pending _

theorem DrainLaw.takeApInvalidate : DrainLaw (s.takeApInvalidate n) := by
  unfold State.takeApInvalidate
  dsimp only
  split
  · exact law.failSlot pending _
  · split
    · split
      · exact law.drainsAperture n _ _ _ _ _ _ _
      · exact law.failSlot pending _
    · exact law.failSlot pending _

theorem DrainLaw.enable (r : RequesterId) : DrainLaw (s.enable n r) := by
  refine law.ends pending (enable_entries s n r) (fun m other => enable_slot_ne s other r) ?_
  unfold State.enable
  dsimp only
  split <;> simp

theorem DrainLaw.disable (r : RequesterId) : DrainLaw (s.disable n r) := by
  refine law.ends pending (disable_entries s n r) (fun m other => disable_slot_ne s other r) ?_
  unfold State.disable
  simp

theorem DrainLaw.resume (r : RequesterId) : DrainLaw (s.resume n r) := by
  refine law.ends pending (resume_entries s n r) (fun m other => resume_slot_ne s other r) ?_
  unfold State.resume
  dsimp only
  split <;> simp

theorem DrainLaw.halt (r : RequesterId) : DrainLaw (s.halt n r) := by
  unfold State.halt
  dsimp only
  split
  · exact law.drains (u := (s.setRequester r _).release r _) (release_entries ..) rfl fun m _ => by
      rw [mark_slots, release_slots]
      rfl
  · exact law.drains (u := s.setRequester r _) rfl rfl fun _ _ => rfl
  · exact law.ends pending rfl (fun m other => by simp [other]) (by simp)
  all_goals exact law.failSlot pending _

end Take

theorem DrainLaw.takeFlush (n : SlotId) : DrainLaw (s.takeFlush n) :=
  law.drains (u := s) rfl rfl fun m other => by simp [other]

/-- No slot is ready for a completion of its own (log 2). -/
theorem DrainLaw.completeIf_eq (n : SlotId) (c : Command) : s.completeIf n c = s :=
  if_neg fun ⟨waiting, _, drained⟩ => by simp [(law n).2 waiting] at drained

/-! ### The window -/

/-- START and ACK lead from no WAITING slot to none (R167, R168). -/
theorem DrainLaw.setSlot {n : SlotId} {sl : Slot} {sub : List SlotId} (idle : (s.slots.get n).state ≠ .waiting)
    (still : sl.state ≠ .waiting) : DrainLaw { s.setSlot n sl with submission := sub } :=
  law.of_same (fun _ => rfl) fun m => by
    change ((s.setSlot n sl).slots.get m).state = .waiting ↔ _
    rw [State.setSlot_get]
    split
    · next own => exact iff_of_false still (own ▸ idle)
    · rfl

theorem DrainLaw.hostWriteAt (w : WindowWord) (v : Word) : DrainLaw (s.hostWriteAt w v) := by
  cases w with
  | control =>
    simp only [State.hostWriteAt, State.hostControl]
    split
    · exact drainLaw_partReset s
    · exact law
  | slot n k =>
    simp only [State.hostWriteAt, State.hostWord, State.hostWord7, State.startSlot, State.ackSlot]
    split
    · split
      · next free => exact law.setSlot (by simp [free]) (by simp [withWord, free])
      · exact law
    · split
      · exact law
      · split
        · next free => exact law.setSlot (by simp [free]) (by simp)
        · exact law
      · split
        · next isEnded => exact law.setSlot (fun waiting => by simp [ended, waiting] at isEnded) (by simp)
        · exact law
      · exact law
  | id | intStatus | intEnable | responseLimit | unlisted => exact law

theorem DrainLaw.hostWrite (w : WindowWord) (v : Word) : DrainLaw (s.hostWrite w v) := by
  unfold State.hostWrite
  split
  · exact law
  · exact law.hostWriteAt w v

theorem DrainLaw.hostAccess (off : Nat) (bytes : List Byte) : DrainLaw (s.hostAccess off bytes) := by
  unfold State.hostAccess
  split
  · exact law
  · split
    · exact law.hostWriteAt _ _
    · split <;> exact law

/-! ### The commands -/

theorem DrainLaw.exec {c : Instr} {t : State} (h : exec c s = .next t) : DrainLaw t := by
  cases c with
  | arrival q =>
    cases h
    split
    · exact law
    · split
      · exact law.of_slots (bears_of_entries (capture_entries ..)) (capture_slots ..)
      · exact law.of_slots (checkArrival_bears _ · q) (checkArrival_slots ..)
  | linkReset =>
    cases h
    exact law.of_slots (bears_of_marks rfl (by simp [Function.comp_def])) rfl
  | partReset cause => cases cause <;> cases h <;> exact drainLaw_partReset s
  | answer p a =>
    cases h
    split
    · exact law
    · exact law
    · exact DrainLaw.ownerTakes (s := s.setPortTag p .free) law p _ _
  | expiry p =>
    cases h
    split
    · split
      · exact DrainLaw.ownerTakes (s := s.setPortTag p .quarantined) law p _ _
      · exact law
    · exact law
    · exact law
  | grant p =>
    cases h
    split
    · exact law.of_slots (arbitrate_bears s · p) (arbitrate_slots s p)
    · exact law
  | apSet => cases h; exact law.takeOf fun n pending => law.takeApSet pending
  | apRetire => cases h; exact law.takeOf fun n pending => law.takeApRetire pending
  | apInvalidate => cases h; exact law.takeOf fun n pending => law.takeApInvalidate pending
  | queryAperture => cases h; exact law.takeOf fun n pending => law.takeQueryAperture pending
  | reqEnable => cases h; exact law.takeRequester fun n r pending => law.enable pending r
  | reqDisable => cases h; exact law.takeRequester fun n r pending => law.disable pending r
  | reqHalt => cases h; exact law.takeRequester fun n r pending => law.halt pending r
  | reqResume => cases h; exact law.takeRequester fun n r pending => law.resume pending r
  | faultClear | queryRequester =>
    cases h
    exact law.takeRequester fun n r pending => law.ends pending rfl
      (fun m other => by simp [State.clearFault, State.queryRequester, other]) (by simp [State.clearFault, State.queryRequester])
  | tcPreload => cases h; exact law.takeOf fun n pending => law.takeTcPreload pending
  | tcUnpin => cases h; exact law.takeOf fun n pending => law.takeTcUnpin pending
  | queryTc => cases h; exact law.takeOf fun n pending => law.takeQueryTc pending
  | flush => cases h; exact law.takeOf fun n _ => law.takeFlush n
  | badOp => cases h; exact law.takeOf fun n pending => law.failSlot pending _
  | apRetireCompletion | apInvalidateCompletion | flushCompletion | reqHaltCompletion => cases h; rwa [law.completeIf_eq]
  | tcPreloadCompletion n o =>
    cases h
    split
    · exact law.of_same (bears_of_entries (endPreload_entries ..)) (endPreload_waiting s · n o)
    · exact law
  | start | ack | word7Action3 | slotWordWrite | linkEnable | softReset | intStatusWrite | intEnableWrite | responseLimitWrite =>
    cases h
    exact law.hostWrite _ _
  | registerWrite => cases h; exact law.hostAccess _ _
  | resetNRelease => cases h; exact law

end Drain

/-- Settles O54: a take that marks waits for its marks, and a departure that takes the last one away ends the wait. -/
theorem everyStepKeepsWaitingSlotsMarked : Obligations.EveryStepKeepsWaitingSlotsMarked :=
  keptByStep_of_exec (fun _ _ law => law) (fun _ law => law) fun _ _ _ law h => law.exec h

end Sys2Proof.Machine

/-! ## A retirement that is DONE leaves nothing of its life -/

namespace Sys2Proof.Machine

/-- The retirement of aperture `a`, whose generation was `gen`, is over and the record FREE with the next generation, or slot `n`
retires it still (R143). -/
def State.retireRuns (s : State) (n : SlotId) (a : ApIndex) (gen : Generation) : Prop :=
  s.apertures.get a = { generation := gen + 1, life := .free } ∨
    s.retires n a ∧ ∃ g, s.apertures.get a = { generation := gen, life := .retiring g }

theorem State.retires.same_slot {s t : State} {n : SlotId} {a : ApIndex} (retires : s.retires n a)
    (slot : t.slots.get n = s.slots.get n) : t.retires n a := by
  unfold State.retires
  rwa [slot]

/-- A slot that is told leaves an aperture record as it is, or ends the retirement that drains it. -/
theorem tell_aperture (s : State) (lost : Bool) (m : SlotId) (a : ApIndex) :
    (s.tell lost m).apertures.get a = s.apertures.get a ∨
      ∃ g, (s.apertures.get a).life = .retiring g ∧
        (s.tell lost m).apertures.get a = { generation := (s.apertures.get a).generation + 1, life := .free } := by
  obtain ⟨-, e⟩ | ⟨-, -, e⟩ | ⟨-, b, g, -, retiring, e⟩ | ⟨-, r, -, -, e⟩ | ⟨-, -, -, -, e⟩ := tell_cases s lost m <;> rw [e]
  case inr.inr.inl =>
    by_cases h : b = a
    · subst h
      exact .inr ⟨g, retiring, vget_set_self ..⟩
    · exact .inl (vget_set_ne _ _ _ _ h)
  all_goals exact .inl rfl

/-- A WAITING retirement that is told ends its own aperture's life, or goes on. -/
theorem tell_retires {s : State} {n : SlotId} {a : ApIndex} {g : Grant} (retires : s.retires n a)
    (retiring : (s.apertures.get a).life = .retiring g) (lost : Bool) :
    (s.tell lost n).retires n a ∨ (s.tell lost n).apertures.get a =
      { generation := (s.apertures.get a).generation + 1, life := .free } := by
  obtain ⟨idle, -⟩ | ⟨waiting, -, e⟩ | ⟨-, b, h, retires', -, e⟩ | ⟨-, r, halts, -, -⟩ | ⟨-, -, noRetire, -, -⟩ := tell_cases s lost n
  · exact absurd retires.1 idle
  · left
    obtain ⟨-, command, aperture⟩ := retires
    obtain ⟨command', -, aperture', -⟩ :=
      slot_congr (sl' := (s.tell lost n).slots.get n) (sl := s.slots.get n) (by rw [e]; simp [slotWord, lossWords_word0])
    exact ⟨by rw [e]; simpa using waiting, command'.trans command, aperture'.trans aperture⟩
  · obtain rfl : b = a := Option.some.inj (retires'.2.2.symm.trans retires.2.2)
    exact .inr (by rw [e]; exact vget_set_self ..)
  · exact absurd (halts.2.1.symm.trans retires.2.1) (by simp)
  · exact absurd retiring (noRetire a g retires)

theorem State.retireRuns.tell {s : State} {n : SlotId} {a : ApIndex} {gen : Generation} (runs : s.retireRuns n a gen) (lost : Bool)
    (m : SlotId) : (s.tell lost m).retireRuns n a gen := by
  obtain free | ⟨retires, g, retiring⟩ := runs
  · obtain same | ⟨g, retiring, -⟩ := tell_aperture s lost m a
    · exact .inl (same.trans free)
    · simp [free] at retiring
  · obtain same | ⟨-, -, freed⟩ := tell_aperture s lost m a
    · by_cases own : m = n
      · subst own
        obtain waits | freed := tell_retires retires (by rw [retiring]) lost
        · exact .inr ⟨waits, g, same.trans retiring⟩
        · exact .inl (by rw [freed, retiring])
      · exact .inr ⟨retires.same_slot (tell_slot_ne s lost own), g, same.trans retiring⟩
    · exact .inl (by rw [freed, retiring])

theorem State.retireRuns.tellAll {s : State} {n : SlotId} {a : ApIndex} {gen : Generation} (runs : s.retireRuns n a gen)
    (lost : Bool) (marks : MarkSet) (ns : List SlotId) : (s.tellAll lost marks ns).retireRuns n a gen := by
  induction ns generalizing s with
  | nil => exact runs
  | cons m ns ih =>
    rw [State.tellAll]
    split
    · exact ih (runs.tell lost m)
    · exact ih runs

/-- A retirement that a command ends has freed its aperture and raised the generation. -/
theorem WaitEnds.retired {s t : State} {n : SlotId} {a : ApIndex} {g : Grant} (ends : WaitEnds s t n) (retires : s.retires n a)
    (retiring : (s.apertures.get a).life = .retiring g) (done : (t.slots.get n).state = .done) :
    t.apertures.get a = { generation := (s.apertures.get a).generation + 1, life := .free } := by
  have running : t.retireRuns n a (s.apertures.get a).generation := by
    obtain spared | free | ⟨u, lost, marks, same, rfl⟩ | rfl := ends
    · simp [spared, retires.1] at done
    · simp [free] at done
    · have : u.retireRuns n a (s.apertures.get a).generation :=
        .inr ⟨retires.same_slot (by rw [same.slots]), g, by rw [same.apertures, ← retiring]⟩
      exact this.tellAll lost marks allSlots
    · left
      rw [complete_of_apRetire retires.2.1 retires.2.2 retiring]
      exact vget_set_self ..
  exact running.resolve_right fun ⟨⟨waiting, _⟩, _⟩ => by simp [waiting] at done

/-- Settles O56: the slot's end frees its aperture, and a FREE aperture has no entry and no live walk (`RetireLaw`,
`TranslationLaw`). -/
theorem retirementThatIsDoneLeavesNothingOfItsLife : Obligations.RetirementThatIsDoneLeavesNothingOfItsLife := by
  intro s s' n a translations retirements retires run done
  obtain ⟨g, retiring⟩ : ∃ g, (s.apertures.get a).life = .retiring g := by
    obtain ⟨waiting, command, aperture⟩ := retires
    obtain ⟨-, -, serves, -⟩ := retirements
    obtain ⟨b, g, aperture', retiring⟩ := serves n waiting command
    obtain rfl : b = a := Option.some.inj (aperture'.symm.trans aperture)
    exact ⟨g, retiring⟩
  have freed : s'.apertures.get a = { generation := (s.apertures.get a).generation + 1, life := .free } := by
    obtain ⟨c, rest, -, ran⟩ | ⟨-, rfl⟩ := step_cases run
    · exact WaitEnds.retired (s := { s with pending := rest }) (exec_waitEnds retires.1 ran) retires retiring done
    · have : (s.tick.slots.get n).state = .waiting := retires.1
      simp [this] at done
  obtain ⟨translations', empty, -⟩ := everyStepKeepsTranslationsAndRetirementsSound.2 s s' ⟨translations, retirements⟩ run
  obtain ⟨noWrite, noRead⟩ := empty a (by rw [freed])
  obtain ⟨uncached, unwalked⟩ := translations'.unnamed (a := a) (by simp [freed])
  refine ⟨by rw [freed], by rw [freed], noWrite, noRead, uncached, fun w hw named => ?_⟩
  have orphaned : w.orphaned = true := by
    rw [← Bool.not_eq_false]
    exact fun live => unwalked w hw live named
  exact ⟨orphaned, translations'.orphans_bare w hw orphaned⟩

end Sys2Proof.Machine

/-! ## The takes of AP_RETIRE, AP_INVALIDATE and FLUSH -/

namespace Sys2Proof.Machine

/-! ### Refusals (R140, R145) -/

/-- Settles O25: each check stands behind those that pass. -/
theorem revocationRefusesByItsFirstFailedCheck : Obligations.RevocationRefusesByItsFirstFailedCheck := by
  intro s n a aperture
  refine ⟨fun take => ?_, fun take => ?_⟩
  · have run : exec .apRetire s = .next (s.takeApRetire n) := congrArg _ (takeOf_taken _ take.1 take.2)
    rw [run, State.takeApRetire, aperture]
    refine ⟨fun free => ?_, fun g retiring => ?_, fun g live notAny other => ?_⟩
    · simp only [free, failSlot_eq]
    · simp only [retiring, failSlot_eq]
    · have stale : generationAgrees (s.slots.get n) (s.apertures.get a).generation = false := by
        simpa only [generationAgrees, notAny, Bool.false_or, decide_eq_false_iff_not] using other
      simp [live, stale, failSlot_eq]
  · have run : exec .apInvalidate s = .next (s.takeApInvalidate n) := congrArg _ (takeOf_taken _ take.1 take.2)
    rw [run, State.takeApInvalidate]
    simp only [aperture]
    refine ⟨fun notLive => ?_, fun g live beyond => ?_⟩
    · split
      · next g live => exact absurd live (notLive g)
      · rfl
    · simp only [live]
      rw [if_neg (by omega)]
      rfl

/-! ### Marks, and the wait or the end that follows them (R136, R138) -/

/-- A take that finds no entry with its mark and marks some waits. -/
theorem waitOrComplete_of_marked {s : State} {n : SlotId} {pw : PostedWrite → Bool} {pr : ReadEntry → Bool} (words : Vector Word 7)
    (some : (∃ e ∈ s.pwq, pw e = true) ∨ ∃ d ∈ s.rdt, pr d = true) :
    ((s.mark n pw pr).withWords n words).waitOrComplete n = { s with
      pwq := markWrites n pw s.pwq
      rdt := markReads n pr s.rdt
      slots := s.slots.set n.val { s.slots.get n with state := .waiting, words := words } n.isLt } := by
  have borne : ((s.mark n pw pr).withWords n words).bears n = true := by
    change (s.mark n pw pr).bears n = true
    rw [mark_bears, Bool.or_assoc]
    simp [some]
  rw [State.waitOrComplete, if_pos borne]
  simp [State.setSlotState, State.setSlot, State.withWords, State.mark, markWrites, markReads]

/-- A take that finds no entry with its mark and marks none completes. -/
theorem waitOrComplete_of_unmarked {s : State} {n : SlotId} (fresh : s.bears n = false) {pw : PostedWrite → Bool}
    {pr : ReadEntry → Bool} (words : Vector Word 7) (noWrite : ∀ e ∈ s.pwq, pw e = false) (noRead : ∀ d ∈ s.rdt, pr d = false) :
    ((s.mark n pw pr).withWords n words).waitOrComplete n = (s.withWords n words).complete n := by
  have unmarked : s.mark n pw pr = s :=
    congrArg₂ (fun p d => { s with pwq := p, rdt := d }) (markWrites_none noWrite) (markReads_none noRead)
  rw [unmarked, State.waitOrComplete, if_neg]
  simpa [State.bears, State.withWords] using fresh

/-- A command that is taken has no bearer yet. -/
theorem DrainLaw.unborne_of_takes {s : State} (law : DrainLaw s) {n : SlotId} {c : Option Command} (take : s.takes n c) :
    s.bears n = false := law.unborne (by simp [(nextTake_some take.1).2])

theorem complete_withWords_of_other {s : State} {n : SlotId} {words : Vector Word 7} (word : words.get 0 = slotWord (s.slots.get n) 0)
    {c : Command} (command : slotCommand (s.slots.get n) = some c) (other : c ≠ .apRetire ∧ c ≠ .reqHalt) :
    (s.withWords n words).complete n = s.withDone n words := by
  obtain ⟨a, g, h, -⟩ | ⟨r, h, -⟩ | ⟨-, -, e⟩ := complete_withWords_cases s n word
  · exact absurd (Option.some.inj (command.symm.trans h)) other.1
  · exact absurd (Option.some.inj (command.symm.trans h)) other.2
  · exact e

/-! ### FLUSH (R150) -/

/-- Settles O26: the scope is the whole queue and no read. -/
theorem flushMarksEveryPostedWrite : Obligations.FlushMarksEveryPostedWrite := by
  intro s n law take
  refine congrArg _ ((takeOf_taken _ take.1 take.2).trans ?_)
  have marked : s.takeFlush n = (((s.mark n (fun _ => true) fun _ => false).withWords n
      ((s.slots.get n).wordsWith 5 0)).waitOrComplete n) := rfl
  rw [marked]
  split
  · next empty =>
    rw [waitOrComplete_of_unmarked (law.unborne_of_takes take) _ (by simp [empty]) (by simp)]
    exact complete_withWords_of_other (withWord_word0 (s.slots.get n) (k := 5) (by decide) 0) take.2 (by simp)
  · next some =>
    obtain ⟨e, he⟩ := List.exists_mem_of_ne_nil _ some
    rw [waitOrComplete_of_marked _ (.inl ⟨e, he, rfl⟩), markReads_none fun _ _ => rfl]

/-! ### What AP_RETIRE and AP_INVALIDATE have in common (R141, R146) -/

/-- `s` without the cache entries that meet `e` and with the walks that meet `p` orphaned; the link's records are given. -/
def State.revoked (s : State) (e : TcEntry → Bool) (p : Walk → Bool) (tags : Vector (Vector TagState 4) 16)
    (out : List LinkResponse) : State :=
  { s with
    tc := s.tc.filter fun x => !e x
    walks := orphaned p s.walks
    linkTags := tags
    linkOut := out }

theorem orphan_answered (s : State) (p : Walk → Bool) (x : LinkReply) :
    Answered s (s.orphan p x) ((s.walks.filter p).flatMap Walk.waiters) x :=
  ⟨by rw [orphan_frame], fun _ _ => orphan_linkTag ..⟩

theorem orphan_revoked (s : State) (e : TcEntry → Bool) (p : Walk → Bool) (x : LinkReply) :
    (s.dropEntries e).orphan p x =
      s.revoked e p ((s.dropEntries e).orphan p x).linkTags ((s.dropEntries e).orphan p x).linkOut := by
  conv_lhs => rw [orphan_frame, ← (orphan_answered (s.dropEntries e) p x).1]
  rfl

theorem waitOrComplete_link (s : State) (n : SlotId) :
    (s.waitOrComplete n).linkOut = s.linkOut ∧ (s.waitOrComplete n).linkTags = s.linkTags := by
  unfold State.waitOrComplete
  split
  · exact ⟨rfl, rfl⟩
  · rw [complete_frame]
    exact ⟨rfl, rfl⟩

theorem writeWords_eq (s : State) (n : SlotId) (v v' : Word) :
    (s.writeWord n 5 v).writeWord n 6 v' = s.withWords n (((s.slots.get n).wordsWith 5 v).set 6 v') := by
  simp [State.writeWord, State.withWords, State.setSlot, withWord, Slot.wordsWith]

/-- `t` is what a take in slot `n` leaves of `s` that has dropped cache entries, orphaned walks, marked the entries in its scope and
written its slot's words. -/
structure Revokes (s t : State) (n : SlotId) (words : Vector Word 7) (e : TcEntry → Bool) (p : Walk → Bool) (x : LinkReply)
    (pw : PostedWrite → Bool) (pr : ReadEntry → Bool) : Prop where
  answered : Answered s t ((s.walks.filter p).flatMap Walk.waiters) x
  bears : t.bears n = true ↔ (∃ e ∈ s.pwq, pw e = true) ∨ ∃ d ∈ s.rdt, pr d = true
  waits : (∃ e ∈ s.pwq, pw e = true) ∨ (∃ d ∈ s.rdt, pr d = true) →
    t = { s.revoked e p t.linkTags t.linkOut with
      pwq := markWrites n pw s.pwq
      rdt := markReads n pr s.rdt
      slots := s.slots.set n.val { s.slots.get n with state := .waiting, words := words } n.isLt }
  completes : (∀ e ∈ s.pwq, pw e = false) → (∀ d ∈ s.rdt, pr d = false) →
    t = ((s.revoked e p t.linkTags t.linkOut).withWords n words).complete n

theorem revokes_of_take {s : State} {n : SlotId} (fresh : s.bears n = false) (words : Vector Word 7) (e : TcEntry → Bool)
    (p : Walk → Bool) (x : LinkReply) (pw : PostedWrite → Bool) (pr : ReadEntry → Bool) :
    Revokes s (((((s.dropEntries e).orphan p x).mark n pw pr).withWords n words).waitOrComplete n) n words e p x pw pr := by
  have answered := orphan_answered (s.dropEntries e) p x
  have link := waitOrComplete_link ((((s.dropEntries e).orphan p x).mark n pw pr).withWords n words) n
  have revoked := orphan_revoked s e p x
  generalize (s.dropEntries e).orphan p x = u at *
  obtain ⟨out, tags⟩ : _ = u.linkOut ∧ _ = u.linkTags := link
  rw [← out, ← tags] at revoked
  generalize ht : ((u.mark n pw pr).withWords n words).waitOrComplete n = t at *
  refine ⟨answered.congr out tags, ?_, fun some => ?_, fun noWrite noRead => ?_⟩
  · have marked : t.entries = (u.mark n pw pr).entries := ht ▸ waitOrComplete_entries ..
    have unborne : (s.revoked e p t.linkTags t.linkOut).bears n = false := fresh
    rw [bears_of_entries marked, mark_bears, revoked, unborne]
    simp [State.revoked]
  · refine ht.symm.trans ((waitOrComplete_of_marked words ?_).trans ?_)
    · rwa [revoked]
    · rw [revoked]
      rfl
  · refine ht.symm.trans ((waitOrComplete_of_unmarked ?_ words ?_ ?_).trans ?_)
    · rwa [revoked]
    · rwa [revoked]
    · rwa [revoked]
    · rw [← revoked]

/-! ### AP_RETIRE (R141, R143) -/

theorem complete_withWords_of_apRetire {s : State} {n : SlotId} {words : Vector Word 7} {a : ApIndex} {g : Grant}
    (word : words.get 0 = slotWord (s.slots.get n) 0) (command : slotCommand (s.slots.get n) = some .apRetire)
    (aperture : slotAperture (s.slots.get n) = some a) (retiring : (s.apertures.get a).life = .retiring g) :
    (s.withWords n words).complete n =
      { s.withAperture a { generation := (s.apertures.get a).generation + 1, life := .free } with
        views := s.views.set g.owner.val ((s.views.get g.owner).filter fun i => decide (i ≠ a)) g.owner.isLt }.withDone n
        (words.set 6 (((s.apertures.get a).generation + 1).setWidth 32)) := by
  obtain ⟨b, h, -, aperture', retiring', e⟩ | ⟨r, halt, -⟩ | ⟨noRetire, -⟩ := complete_withWords_cases s n word
  · obtain rfl : b = a := Option.some.inj (aperture'.symm.trans aperture)
    obtain rfl : h = g := by simpa [retiring'] using retiring
    exact e
  · simp [command] at halt
  · exact absurd retiring (noRetire command a g aperture)

/-- What a take of AP_RETIRE that passes its checks revokes. -/
theorem retire_revokes {s : State} {n : SlotId} (fresh : s.bears n = false) (a : ApIndex) (g : Grant) :
    Revokes (s.setAperture a { generation := (s.apertures.get a).generation, life := .retiring g }) (s.retire n a g) n
      (((s.slots.get n).wordsWith 5 0).set 6 ((s.apertures.get a).generation.setWidth 32))
      (fun e => decide (e.aperture = a)) (fun w => decide (w.aperture = a)) (.abort .noAperture)
      (fun e => decide (e.aperture = a)) fun d => decide (d.aperture = a) := by
  have taken := revokes_of_take (s := s.setAperture a { generation := (s.apertures.get a).generation, life := .retiring g }) fresh
    (((s.slots.get n).wordsWith 5 0).set 6 ((s.apertures.get a).generation.setWidth 32))
    (fun e => decide (e.aperture = a)) (fun w => decide (w.aperture = a)) (.abort .noAperture)
    (fun e => decide (e.aperture = a)) fun d => decide (d.aperture = a)
  unfold State.retire
  dsimp only
  rw [writeWords_eq, mark_slots, orphan_slots, fieldAt_zero]
  exact taken

/-- A retirement that has revoked all and completes at its take. -/
theorem complete_of_revoked {s : State} {n : SlotId} {words : Vector Word 7} {a : ApIndex} {g : Grant}
    (word : words.get 0 = slotWord (s.slots.get n) 0) (command : slotCommand (s.slots.get n) = some .apRetire)
    (aperture : slotAperture (s.slots.get n) = some a) (e : TcEntry → Bool) (p : Walk → Bool)
    (tags : Vector (Vector TagState 4) 16) (out : List LinkResponse) :
    (((s.setAperture a { generation := (s.apertures.get a).generation, life := .retiring g }).revoked e p tags out).withWords n
        words).complete n =
      { (s.withAperture a { generation := (s.apertures.get a).generation + 1, life := .free }).withDone n
          (words.set 6 (((s.apertures.get a).generation + 1).setWidth 32)) with
        views := s.views.set g.owner.val ((s.views.get g.owner).filter fun i => decide (i ≠ a)) g.owner.isLt
        tc := s.tc.filter fun x => !e x
        walks := orphaned p s.walks
        linkTags := tags
        linkOut := out } := by
  generalize hu : (s.setAperture a { generation := (s.apertures.get a).generation, life := .retiring g }).revoked e p tags out = u
  have record : u.apertures.get a = { generation := (s.apertures.get a).generation, life := .retiring g } := by
    rw [← hu]
    exact vget_set_self ..
  have slot : u.slots.get n = s.slots.get n := by rw [← hu]; rfl
  rw [← slot] at word command aperture
  rw [complete_withWords_of_apRetire (g := g) word command aperture (by rw [record]), record, ← hu]
  simp [State.revoked, State.withAperture, State.setAperture, State.withDone, State.withEnd]

/-- Settles O23: what the take revokes, and the record's end where it marks nothing. -/
theorem apRetireTakeReachesEveryFormOfTheAperturesTraffic : Obligations.ApRetireTakeReachesEveryFormOfTheAperturesTraffic := by
  intro s n a g law take aperture live agrees
  have passes : generationAgrees (s.slots.get n) (s.apertures.get a).generation = true := by
    simpa only [generationAgrees, Bool.or_eq_true, decide_eq_true_eq] using agrees
  have run : s.takeApRetire n = s.retire n a g := by
    simp only [State.takeApRetire, aperture, live, passes, if_true]
  have taken := retire_revokes (law.unborne_of_takes take) a g
  have dropped : (fun e : TcEntry => decide (e.aperture ≠ a)) = fun e => !decide (e.aperture = a) := funext fun _ => decide_not
  rw [dropped]
  refine ⟨s.retire n a g, congrArg _ ((takeOf_taken _ take.1 take.2).trans run), taken.answered, fun some => ?_,
    fun ⟨noWrite, noRead⟩ => ?_⟩
  · exact taken.waits (by simpa using some)
  · refine (taken.completes (by simpa using noWrite) (by simpa using noRead)).trans ?_
    have word : (((s.slots.get n).wordsWith 5 0).set 6 ((s.apertures.get a).generation.setWidth 32)).get 0 =
        slotWord (s.slots.get n) 0 := words56_word0 ..
    refine (complete_of_revoked word take.2 aperture ..).trans ?_
    rw [Vector.set_set]

/-! ### AP_INVALIDATE (R146, R147) -/

/-- The range of pages of an AP_INVALIDATE, by its first page and count. -/
theorem inScope_eq (sl : Slot) {a b : ApIndex} (page : Nat) : (decide (b = a) && inPages sl page) =
    (decide (b = a) && decide ((slotWord sl 1).toNat ≤ page) &&
      decide (page < (slotWord sl 1).toNat + (slotWord sl 2).toNat)) := by
  rw [inPages, Bool.and_assoc]

/-- What a take of AP_INVALIDATE that passes its checks revokes. -/
theorem invalidate_revokes {s : State} {n : SlotId} (fresh : s.bears n = false) (a : ApIndex) (g : Grant) :
    Revokes s (s.invalidate n a g) n
      (((s.slots.get n).wordsWith 5 0).set 6 (BitVec.ofNat 32
        (s.tc.countP fun e => decide (e.aperture = a) && inPages (s.slots.get n) e.page)))
      (fun e => decide (e.aperture = a) && inPages (s.slots.get n) e.page)
      (fun w => decide (w.aperture = a) && inPages (s.slots.get n) w.page) (.retry .invalidated)
      (fun e => decide (e.aperture = a) && inPages (s.slots.get n) (linkPage g e.linkAddr))
      fun d => decide (d.aperture = a) && inPages (s.slots.get n) (linkPage g d.linkAddr) := by
  unfold State.invalidate
  dsimp only
  rw [writeWords_eq, mark_slots, orphan_slots, natAt, fieldAt_zero, BitVec.setWidth_eq]
  exact revokes_of_take fresh ..

/-- A take that drains no record shows in its marks whether it waits, and ends DONE where it does not. -/
theorem Revokes.ofOther {s t : State} {n : SlotId} {words : Vector Word 7} {e : TcEntry → Bool} {p : Walk → Bool} {x : LinkReply}
    {pw : PostedWrite → Bool} {pr : ReadEntry → Bool} (taken : Revokes s t n words e p x pw pr)
    (done : ∀ tags out, ((s.revoked e p tags out).withWords n words).complete n = (s.revoked e p tags out).withDone n words) :
    (t.tc = s.tc.filter (fun y => !e y) ∧ t.walks = orphaned p s.walks ∧ t.pwq = markWrites n pw s.pwq ∧
      t.rdt = markReads n pr s.rdt) ∧
    ((∃ e ∈ t.pwq, e.marks.get n = true) ∨ (∃ d ∈ t.rdt, d.marks.get n = true) →
      t = { s with
        tc := t.tc
        walks := t.walks
        pwq := t.pwq
        rdt := t.rdt
        linkOut := t.linkOut
        linkTags := t.linkTags
        slots := s.slots.set n.val { s.slots.get n with state := .waiting, words := words } n.isLt }) ∧
    ((∀ e ∈ t.pwq, e.marks.get n = false) ∧ (∀ d ∈ t.rdt, d.marks.get n = false) →
      t = { s.withDone n words with tc := t.tc, walks := t.walks, linkOut := t.linkOut, linkTags := t.linkTags }) := by
  have borne : t.bears n = true ↔ (∃ e ∈ t.pwq, e.marks.get n = true) ∨ ∃ d ∈ t.rdt, d.marks.get n = true := by
    simp [State.bears]
  rw [← bears_eq_false, ← borne]
  by_cases some : (∃ e ∈ s.pwq, pw e = true) ∨ ∃ d ∈ s.rdt, pr d = true
  · have held : t.bears n = true := taken.bears.2 some
    have waits := taken.waits some
    generalize t.linkTags = tags at *
    generalize t.linkOut = out at *
    refine ⟨?_, fun _ => ?_, fun free => by simp [held] at free⟩
    · rw [waits]
      exact ⟨rfl, rfl, rfl, rfl⟩
    · rw [waits]
      rfl
  · have free : t.bears n = false := by
      rw [← Bool.not_eq_true, taken.bears]
      exact some
    obtain ⟨noWrite, noRead⟩ : (∀ e ∈ s.pwq, pw e = false) ∧ ∀ d ∈ s.rdt, pr d = false := by simpa using some
    have ends := (taken.completes noWrite noRead).trans (done ..)
    generalize t.linkTags = tags at *
    generalize t.linkOut = out at *
    rw [markWrites_none noWrite, markReads_none noRead]
    refine ⟨?_, fun held => by simp [free] at held, fun _ => ?_⟩
    · rw [ends]
      exact ⟨rfl, rfl, rfl, rfl⟩
    · rw [ends]
      rfl

/-- Settles O24: the scope is the range of pages, and the record is not drained. -/
theorem apInvalidateTakeReachesThePagesOfTheRange : Obligations.ApInvalidateTakeReachesThePagesOfTheRange := by
  rintro s n a g f c law take aperture live rfl rfl atLeastOne inside
  have run : s.takeApInvalidate n = s.invalidate n a g := by
    simp only [State.takeApInvalidate, aperture, live]
    exact if_pos ⟨atLeastOne, inside⟩
  have taken := invalidate_revokes (law.unborne_of_takes take) a g
  simp only [inScope_eq, linkPage] at taken
  refine ⟨s.invalidate n a g, _, congrArg _ ((takeOf_taken _ take.1 take.2).trans run), rfl, taken.answered, ?_⟩
  obtain ⟨⟨tc, walks, pwq, rdt⟩, waits, ends⟩ := taken.ofOther fun tags out =>
    complete_withWords_of_other (s := s.revoked _ _ tags out) (words56_word0 (s.slots.get n) 0 _) take.2 (by simp)
  exact ⟨tc, walks, pwq, rdt, waits, ends⟩

end Sys2Proof.Machine

/-! ## What the ISSUED owners of port tags wait for

The laws of port tags and of outstanding requests speak of the walks, posted writes and reads through one thing alone: the requests
that the ISSUED ones wait for. Whatever leaves these, the tags and the record of the messages sent as they are (`State.port`) keeps
both laws; `PortMove` is what else a command can do to them. -/

namespace Sys2Proof.Machine

/-- The request that a walk waits for, if it is ISSUED (R94). -/
def Walk.request (w : Walk) : Option PortMessage :=
  match w.state with
  | .waitingTag => none
  | .issued p => some (.walkRead p w.entryAddr)

/-- The request that a posted write waits for, if it is ISSUED (R111). -/
def PostedWrite.request (e : PostedWrite) : Option PortMessage :=
  match e.state with
  | .queued => none
  | .issued p => some (.write p e.memAddr e.length e.enables e.data)

/-- The request that a read waits for, if it is ISSUED (R128). -/
def ReadEntry.request (d : ReadEntry) : Option PortMessage :=
  match d.state with
  | .orderWait => none
  | .ready => none
  | .issued p => some (.read p d.memAddr d.length)

/-- The requests that owners of a kind wait for, in the owners' order. -/
def State.awaited (s : State) : PortKind → List PortMessage
  | .walk => s.walks.filterMap Walk.request
  | .write => s.pwq.filterMap PostedWrite.request
  | .read => s.rdt.filterMap ReadEntry.request

/-- Whether a message goes out under a port tag. -/
def isUnder (p : PortTagId) (m : PortMessage) : Bool := decide (messageTag m = some p)

/-- What the laws of the port speak of: the requests awaited, the port tags, and the messages sent. -/
def State.port (s : State) : (PortKind → List PortMessage) × Vector PortTag 8 × List PortMessage :=
  (s.awaited, s.portTags, s.portOut)

theorem port_eq_iff {s t : State} :
    t.port = s.port ↔ t.awaited = s.awaited ∧ t.portTags = s.portTags ∧ t.portOut = s.portOut := by
  simp [State.port]

/-- The requests awaited by owners of the other kinds do not depend on the walks. -/
theorem awaited_walks_ne (s : State) (ws : List Walk) {j : PortKind} (other : j ≠ .walk) :
    { s with walks := ws }.awaited j = s.awaited j := by
  cases j with
  | walk => exact absurd rfl other
  | write | read => rfl

theorem awaited_pwq_ne (s : State) (pwq : List PostedWrite) {j : PortKind} (other : j ≠ .write) :
    { s with pwq := pwq }.awaited j = s.awaited j := by
  cases j with
  | write => exact absurd rfl other
  | walk | read => rfl

theorem awaited_rdt_ne (s : State) (rdt : List ReadEntry) {j : PortKind} (other : j ≠ .read) :
    { s with rdt := rdt }.awaited j = s.awaited j := by
  cases j with
  | read => exact absurd rfl other
  | walk | write => rfl

/-! ### Owners and the requests they wait for -/

theorem isUnder_iff {p : PortTagId} {m : PortMessage} : isUnder p m = true ↔ messageTag m = some p := decide_eq_true_iff

theorem Walk.request_eq_some {w : Walk} {m : PortMessage} :
    w.request = some m ↔ ∃ p, w.state = .issued p ∧ m = .walkRead p w.entryAddr := by
  unfold Walk.request
  cases w.state <;> simp [eq_comm]

theorem PostedWrite.request_eq_some {e : PostedWrite} {m : PortMessage} :
    e.request = some m ↔ ∃ p, e.state = .issued p ∧ m = .write p e.memAddr e.length e.enables e.data := by
  unfold PostedWrite.request
  cases e.state <;> simp [eq_comm]

theorem ReadEntry.request_eq_some {d : ReadEntry} {m : PortMessage} :
    d.request = some m ↔ ∃ p, d.state = .issued p ∧ m = .read p d.memAddr d.length := by
  unfold ReadEntry.request
  cases d.state <;> simp [eq_comm]

/-- A walk holds the tag that the request it waits for went out under. -/
theorem Walk.holdsTag_eq (p : PortTagId) (w : Walk) : w.holdsTag p = (w.request.map (isUnder p)).getD false := by
  unfold Walk.holdsTag Walk.request
  cases w.state <;> simp [isUnder, messageTag]

theorem PostedWrite.holdsTag_eq (p : PortTagId) (e : PostedWrite) : e.holdsTag p = (e.request.map (isUnder p)).getD false := by
  unfold PostedWrite.holdsTag PostedWrite.request
  cases e.state <;> simp [isUnder, messageTag]

theorem ReadEntry.holdsTag_eq (p : PortTagId) (d : ReadEntry) : d.holdsTag p = (d.request.map (isUnder p)).getD false := by
  unfold ReadEntry.holdsTag ReadEntry.request
  cases d.state <;> simp [isUnder, messageTag]

theorem owners_eq_countP (s : State) (p : PortTagId) (k : PortKind) : s.owners p k = (s.awaited k).countP (isUnder p) := by
  cases k with
  | walk => simp only [State.owners, State.awaited, List.countP_filterMap, funext (Walk.holdsTag_eq p)]
  | write => simp only [State.owners, State.awaited, List.countP_filterMap, funext (PostedWrite.holdsTag_eq p)]
  | read => simp only [State.owners, State.awaited, List.countP_filterMap, funext (ReadEntry.holdsTag_eq p)]

theorem portTagLaw_iff {s : State} : PortTagLaw s ↔
    ∀ p k, (s.awaited k).countP (isUnder p) = if tagKind (s.portTags.get p) = some k then 1 else 0 := by
  simp only [PortTagLaw, owners_eq_countP]

theorem outstandingLaw_iff {s : State} : OutstandingLaw s ↔
    ∀ k, ∀ m ∈ s.awaited k, ∀ p, messageTag m = some p → s.lastRequest p = some m := by
  constructor
  · rintro ⟨walks, writes, reads⟩ k m hm p under
    cases k with
    | walk =>
      obtain ⟨w, hw, request⟩ := List.mem_filterMap.1 hm
      obtain ⟨q, issued, rfl⟩ := Walk.request_eq_some.1 request
      cases under
      exact walks w hw p issued
    | write =>
      obtain ⟨e, he, request⟩ := List.mem_filterMap.1 hm
      obtain ⟨q, issued, rfl⟩ := PostedWrite.request_eq_some.1 request
      cases under
      exact writes e he p issued
    | read =>
      obtain ⟨d, hd, request⟩ := List.mem_filterMap.1 hm
      obtain ⟨q, issued, rfl⟩ := ReadEntry.request_eq_some.1 request
      cases under
      exact reads d hd p issued
  · intro last
    exact ⟨
      fun w hw p issued => last .walk _ (List.mem_filterMap.2 ⟨w, hw, Walk.request_eq_some.2 ⟨p, issued, rfl⟩⟩) p rfl,
      fun e he p issued => last .write _ (List.mem_filterMap.2 ⟨e, he, PostedWrite.request_eq_some.2 ⟨p, issued, rfl⟩⟩) p rfl,
      fun d hd p issued => last .read _ (List.mem_filterMap.2 ⟨d, hd, ReadEntry.request_eq_some.2 ⟨p, issued, rfl⟩⟩) p rfl⟩

theorem portTagLaw_congr {s t : State} (same : t.port = s.port) : PortTagLaw t ↔ PortTagLaw s := by
  obtain ⟨awaited, tags, -⟩ := port_eq_iff.1 same
  rw [portTagLaw_iff, portTagLaw_iff, awaited, tags]

/-- While no message is sent, requests may leave those awaited. -/
theorem outstandingLaw_of_subset {s t : State} (law : OutstandingLaw s) (subset : ∀ k, t.awaited k ⊆ s.awaited k)
    (out : t.portOut = s.portOut) : OutstandingLaw t := by
  rw [outstandingLaw_iff] at law ⊢
  intro k m awaited p under
  rw [State.lastRequest, out]
  exact law k m (subset k awaited) p under

theorem outstandingLaw_of_same {s t : State} (law : OutstandingLaw s) (awaited : t.awaited = s.awaited)
    (out : t.portOut = s.portOut) : OutstandingLaw t :=
  outstandingLaw_of_subset law (fun _ => awaited ▸ List.Subset.refl _) out

/-- A new message is the last request under its own tag, and every other tag keeps its last one. -/
theorem lastRequest_sent {s t : State} {m : PortMessage} (out : t.portOut = s.portOut ++ [m]) (p : PortTagId) :
    t.lastRequest p = if messageTag m = some p then some m else s.lastRequest p := by
  rw [State.lastRequest, out, lastUnder_append]
  split
  · simp
  · rw [State.lastRequest]
    cases last : lastUnder p s.portOut with
    | none => rfl
    | some k =>
      obtain ⟨x, found, -⟩ := lastUnder_tag last
      obtain ⟨inside, -⟩ := List.getElem?_eq_some_iff.1 found
      exact List.getElem?_append_left inside

/-! ### An owner leaves -/

/-- The state without the owner of a kind that holds a port tag. -/
def State.dropOwner (s : State) (p : PortTagId) : PortKind → State
  | .walk => s.removeWalk p
  | .write => { s with pwq := s.pwq.eraseP (PostedWrite.holdsTag p) }
  | .read => { s with rdt := s.rdt.eraseP (ReadEntry.holdsTag p) }

/-- The owner's request leaves those awaited. -/
theorem filterMap_eraseP {α : Type} {request : α → Option PortMessage} {holds : α → Bool} {p : PortTagId}
    (tag : ∀ x, holds x = ((request x).map (isUnder p)).getD false) (l : List α) :
    (l.eraseP holds).filterMap request = (l.filterMap request).eraseP (isUnder p) := by
  rw [List.eraseP_filterMap]
  congr 2
  funext x
  rw [tag x]
  cases request x <;> rfl

theorem dropOwner_awaited_self (s : State) (p : PortTagId) (k : PortKind) :
    (s.dropOwner p k).awaited k = (s.awaited k).eraseP (isUnder p) := by
  cases k with
  | walk => exact filterMap_eraseP (Walk.holdsTag_eq p) s.walks
  | write => exact filterMap_eraseP (PostedWrite.holdsTag_eq p) s.pwq
  | read => exact filterMap_eraseP (ReadEntry.holdsTag_eq p) s.rdt

theorem dropOwner_awaited_ne (s : State) (p : PortTagId) {k j : PortKind} (other : j ≠ k) :
    (s.dropOwner p k).awaited j = s.awaited j := by
  cases k with
  | walk => exact awaited_walks_ne s _ other
  | write => exact awaited_pwq_ne s _ other
  | read => exact awaited_rdt_ne s _ other

theorem dropOwner_awaited (s : State) (p : PortTagId) (k j : PortKind) :
    (s.dropOwner p k).awaited j = if j = k then (s.awaited j).eraseP (isUnder p) else s.awaited j := by
  split
  · subst_vars
    exact dropOwner_awaited_self ..
  · exact dropOwner_awaited_ne s p ‹_›

theorem dropOwner_portTags (s : State) (p : PortTagId) (k : PortKind) : (s.dropOwner p k).portTags = s.portTags := by
  cases k <;> rfl

theorem dropOwner_portOut (s : State) (p : PortTagId) (k : PortKind) : (s.dropOwner p k).portOut = s.portOut := by
  cases k <;> rfl

theorem dropOwner_congr {s t : State} (same : t.port = s.port) (p : PortTagId) (k : PortKind) :
    (t.dropOwner p k).port = (s.dropOwner p k).port := by
  obtain ⟨awaited, tags, out⟩ := port_eq_iff.1 same
  refine port_eq_iff.2 ⟨funext fun j => ?_, ?_, ?_⟩
  · rw [dropOwner_awaited, dropOwner_awaited, awaited]
  · rw [dropOwner_portTags, dropOwner_portTags, tags]
  · rw [dropOwner_portOut, dropOwner_portOut, out]

theorem countP_eraseP_isUnder (p q : PortTagId) (l : List PortMessage) :
    (l.eraseP (isUnder p)).countP (isUnder q) = if q = p then l.countP (isUnder p) - 1 else l.countP (isUnder q) := by
  rcases split_at_first (isUnder p) l with none | ⟨l₁, m, l₂, rfl, before, under⟩
  · have zero : l.countP (isUnder p) = 0 := List.countP_eq_zero.2 (by simpa using none)
    rw [List.eraseP_of_forall_not (by simpa using none), zero]
    split
    · rwa [‹q = p›]
    · rfl
  · rw [eraseP_split _ before under]
    split
    · subst_vars
      simp [under, ← Nat.add_assoc]
    · have other : isUnder q m = false := by
        simp only [isUnder, isUnder_iff.1 under, Option.some.injEq, decide_eq_false_iff_not]
        exact Ne.symm ‹_›
      simp [other]

/-! ### What a command can do at the port -/

/-- From `s` to `t` command `c`, which performs no part reset, has done one thing at the port, or nothing. -/
inductive PortMove (s : State) (c : Instr) (t : State) : Prop where
  /-- The command does not touch the port. -/
  | quiet (same : t.port = s.port)
  /-- A grant of a FREE tag issues the request of an owner that waited for one (R156). -/
  | issues (p : PortTagId) (k : PortKind) (m : PortMessage) (grant : c = .grant p) (free : s.portTags.get p = .free)
      (under : messageTag m = some p) (tags : t.portTags = (s.setPortTag p (.busy k 0)).portTags)
      (out : t.portOut = s.portOut ++ [m]) (gains : (t.awaited k).Perm (m :: s.awaited k))
      (others : ∀ j, j ≠ k → t.awaited j = s.awaited j)
  /-- An answer or an expiry ends the BUSY state of a tag, and its owner leaves (R159, R161). -/
  | ends (p : PortTagId) (k : PortKind) (time : Nat) (tag : PortTag) (busy : s.portTags.get p = .busy k time)
      (idle : tagKind tag = none) (port : t.port = ((s.setPortTag p tag).dropOwner p k).port)
  /-- A late answer frees a QUARANTINED tag (R159). -/
  | late (p : PortTagId) (quarantined : s.portTags.get p = .quarantined) (port : t.port = (s.setPortTag p .free).port)

section Laws

variable {s t : State} {c : Instr}

/-- A move issues nothing, or one request by a grant of a FREE tag (R156). -/
theorem PortMove.portOut (move : PortMove s c t) : t.portOut = s.portOut ∨
    ∃ p m, c = .grant p ∧ s.portTags.get p = .free ∧ messageTag m = some p ∧ t.portOut = s.portOut ++ [m] := by
  cases move with
  | quiet same =>
    obtain ⟨-, -, out⟩ := port_eq_iff.1 same
    exact .inl out
  | issues p k m grant free under tags out gains others => exact .inr ⟨p, m, grant, free, under, out⟩
  | ends p k time tag busy idle port =>
    obtain ⟨-, -, out⟩ := port_eq_iff.1 port
    exact .inl (out.trans (dropOwner_portOut ..))
  | late p quarantined port =>
    obtain ⟨-, -, out⟩ := port_eq_iff.1 port
    exact .inl out

/-- A tag that nobody holds keeps the law in any state that is not BUSY. -/
theorem portTagLaw_setPortTag_of_idle {p : PortTagId} {tag : PortTag} (law : PortTagLaw s)
    (unheld : tagKind (s.portTags.get p) = none) (idle : tagKind tag = none) : PortTagLaw (s.setPortTag p tag) := by
  rw [portTagLaw_iff] at law ⊢
  intro q j
  refine (law q j).trans ?_
  rw [State.setPortTag_get]
  by_cases own : p = q
  · subst own
    rw [unheld, if_pos rfl, idle]
  · rw [if_neg own]

theorem portTagLaw_dropOwner {p : PortTagId} {k : PortKind} {time : Nat} {tag : PortTag} (law : PortTagLaw s)
    (busy : s.portTags.get p = .busy k time) (idle : tagKind tag = none) :
    PortTagLaw ((s.setPortTag p tag).dropOwner p k) := by
  rw [portTagLaw_iff] at law ⊢
  have awaited : (s.setPortTag p tag).awaited = s.awaited := rfl
  intro q j
  rw [dropOwner_awaited, dropOwner_portTags, State.setPortTag_get, awaited]
  by_cases own : p = q
  · subst own
    have held := law p j
    simp only [busy, tagKind, Option.some.injEq] at held
    rw [if_pos rfl, idle]
    by_cases kind : j = k
    · subst kind
      rw [if_pos rfl, countP_eraseP_isUnder, if_pos rfl, held]
      simp
    · rw [if_neg kind, held, if_neg (Ne.symm kind)]
      simp
  · rw [if_neg own, ← law q j]
    split
    · rw [countP_eraseP_isUnder, if_neg (Ne.symm own)]
    · rfl

theorem PortMove.portTagLaw (move : PortMove s c t) (law : PortTagLaw s) : PortTagLaw t := by
  cases move with
  | quiet same => exact (portTagLaw_congr same).2 law
  | issues p k m grant free under tags out gains others =>
    rw [portTagLaw_iff] at law ⊢
    intro q j
    have before := law q j
    have count : (t.awaited j).countP (isUnder q) =
        (s.awaited j).countP (isUnder q) + if j = k ∧ p = q then 1 else 0 := by
      by_cases kind : j = k
      · subst kind
        rw [gains.countP_eq, List.countP_cons]
        simp [isUnder, under]
      · simp [others j kind, kind]
    rw [count, before, tags, State.setPortTag_get]
    by_cases own : p = q
    · subst own
      simp [free, tagKind, eq_comm]
    · simp [own]
  | ends p k time tag busy idle port => exact (portTagLaw_congr port).2 (portTagLaw_dropOwner law busy idle)
  | late p quarantined port =>
    exact (portTagLaw_congr port).2 (portTagLaw_setPortTag_of_idle law (by simp [quarantined, tagKind]) rfl)

/-- Nobody waits for a request under a tag that is not BUSY. -/
theorem PortTagLaw.unawaited (law : PortTagLaw s) {p : PortTagId} (idle : tagKind (s.portTags.get p) = none) {k : PortKind}
    {m : PortMessage} (awaited : m ∈ s.awaited k) : messageTag m ≠ some p := by
  have zero : (s.awaited k).countP (isUnder p) = 0 := by
    rw [portTagLaw_iff.1 law, idle]
    rfl
  exact fun under => List.countP_eq_zero.1 zero m awaited (isUnder_iff.2 under)

theorem PortMove.outstandingLaw (move : PortMove s c t) (tagLaw : PortTagLaw s) (law : OutstandingLaw s) : OutstandingLaw t := by
  cases move with
  | quiet same =>
    obtain ⟨awaited, -, out⟩ := port_eq_iff.1 same
    exact outstandingLaw_of_same law awaited out
  | issues p k m grant free under tags out gains others =>
    rw [outstandingLaw_iff] at law ⊢
    have kept : ∀ j, ∀ x ∈ s.awaited j, ∀ q, messageTag x = some q → t.lastRequest q = some x := by
      intro j x hx q tag
      have other : messageTag m ≠ some q := by
        rw [under, ← tag]
        exact Ne.symm (tagLaw.unawaited (by rw [free]; rfl) hx)
      rw [lastRequest_sent out, if_neg other]
      exact law j x hx q tag
    intro j x hx q tag
    by_cases kind : j = k
    · subst kind
      rcases List.mem_cons.1 (gains.subset hx) with rfl | hx
      · rw [lastRequest_sent out, if_pos tag]
      · exact kept j x hx q tag
    · exact kept j x (others j kind ▸ hx) q tag
  | ends p k time tag busy idle port =>
    obtain ⟨awaited, -, out⟩ := port_eq_iff.1 port
    refine outstandingLaw_of_subset law (fun j => ?_) (out.trans (dropOwner_portOut ..))
    rw [awaited, dropOwner_awaited]
    split
    · exact List.eraseP_sublist.subset
    · exact List.Subset.refl _
  | late p quarantined port =>
    obtain ⟨awaited, -, out⟩ := port_eq_iff.1 port
    exact outstandingLaw_of_same law awaited out

end Laws

end Sys2Proof.Machine

/-! ## Every command but a part reset makes one move at the port -/

namespace Sys2Proof.Machine

/-! ### What leaves the port as it is -/

theorem filterMap_map_of_same {α : Type} {f : α → α} {request : α → Option PortMessage} (same : ∀ x, request (f x) = request x)
    (l : List α) : (l.map f).filterMap request = l.filterMap request := by
  rw [List.filterMap_map]
  exact List.filterMap_congr fun x _ => same x

theorem filterMap_updateFirst_of_same {α : Type} {p : α → Bool} {f : α → α} {request : α → Option PortMessage}
    (same : ∀ x, request (f x) = request x) (l : List α) : (updateFirst p f l).filterMap request = l.filterMap request := by
  rcases split_at_first p l with none | ⟨l₁, x, l₂, rfl, before, meets⟩
  · rw [updateFirst_none p f none]
  · rw [updateFirst_split p f before meets]
    simp [List.filterMap_append, List.filterMap_cons, same x]

/-- Walks that ask for the same, beside entries, tags and messages that stay. -/
theorem port_of_walks {s : State} {ws : List Walk} (same : ws.filterMap Walk.request = s.walks.filterMap Walk.request) :
    { s with walks := ws }.port = s.port := by
  have awaited : { s with walks := ws }.awaited = s.awaited := funext fun k => by
    cases k with
    | walk => exact same
    | write | read => rfl
  exact port_eq_iff.2 ⟨awaited, rfl, rfl⟩

theorem port_of_entries {s : State} {pwq : List PostedWrite} {rdt : List ReadEntry}
    (writes : pwq.filterMap PostedWrite.request = s.pwq.filterMap PostedWrite.request)
    (reads : rdt.filterMap ReadEntry.request = s.rdt.filterMap ReadEntry.request) :
    { s with pwq := pwq, rdt := rdt }.port = s.port := by
  have awaited : { s with pwq := pwq, rdt := rdt }.awaited = s.awaited := funext fun k => by
    cases k with
    | walk => rfl
    | write => exact writes
    | read => exact reads
  exact port_eq_iff.2 ⟨awaited, rfl, rfl⟩

section Same

variable (s : State)

theorem Walk.request_waiters (w : Walk) (qs : List Request) : { w with waiters := qs }.request = w.request := rfl

theorem mapWaiters_port (f : Walk → List Request) :
    { s with walks := s.walks.map fun (w : Walk) => { w with waiters := f w } }.port = s.port :=
  port_of_walks (filterMap_map_of_same (request := Walk.request) (fun w => Walk.request_waiters w (f w)) _)

theorem updateWaiters_port (p : Walk → Bool) (f : Walk → List Request) :
    { s with walks := updateFirst p (fun (w : Walk) => { w with waiters := f w }) s.walks }.port = s.port :=
  port_of_walks (filterMap_updateFirst_of_same (request := Walk.request) (fun w => Walk.request_waiters w (f w)) _)

theorem release_port (r : RequesterId) (x : LinkReply) : (s.release r x).port = s.port := by
  rw [release_frame]
  exact mapWaiters_port s _

/-- A walk in scope of an orphaning take asks for nothing or stays ISSUED (R101). -/
theorem orphanWalk_request (w : Walk) : (orphanWalk w).bind Walk.request = w.request := by
  unfold orphanWalk Walk.request
  cases state : w.state with
  | waitingTag => rfl
  | issued p => simp

theorem orphan_port (p : Walk → Bool) (x : LinkReply) : (s.orphan p x).port = s.port := by
  rw [orphan_frame]
  refine port_of_walks ?_
  rw [List.filterMap_filterMap]
  refine List.filterMap_congr fun w _ => ?_
  split
  · exact orphanWalk_request w
  · rfl

theorem capture_port (r : RequesterId) (f : FaultRecord) : (s.capture r f).port = s.port := by
  by_cases stops : (s.requesters.get r).stops
  · rw [capture_stopping s r f stops]
    exact release_port ..
  · rw [capture_counting s r f stops]
    rfl

theorem aborted_port (q : Request) (x : LinkReply) (f : FaultRecord) :
    ((s.respond q.requester q.tag x).capture q.requester f).port = s.port := capture_port ..

/-- A request that enters makes a QUEUED write, or a read that is READY or in ORDER_WAIT (R108, R124). -/
theorem enter_port (a : ApIndex) (ord : ReadOrder) (m : MemAddr) (q : Request) : (s.enter a ord m q).port = s.port := by
  obtain ⟨en, data, -, -, h⟩ | ⟨-, -, h⟩ | ⟨-, h⟩ | ⟨-, h⟩ := enter_cases s a ord m q <;> rw [h]
  · refine (port_of_entries (rdt := s.rdt) ?_ rfl :
      { s with pwq := s.pwq ++ [newWrite s.nextSeq a m q en data], rdt := s.rdt }.port = s.port)
    simp [newWrite, PostedWrite.request]
  · refine (port_of_entries (pwq := s.pwq) rfl ?_ :
      { s with pwq := s.pwq, rdt := s.rdt ++ [newRead s.nextSeq a ord m q (s.holdingWrites ord q.requester m)] }.port = s.port)
    by_cases held : s.holdingWrites ord q.requester m = [] <;> simp [newRead, ReadEntry.request, held]
  · rfl
  · rfl

theorem park_port (a : ApIndex) (gen : Generation) (page : Nat) (q : Request) : (s.park a gen page q).port = s.port := by
  unfold State.park
  split
  · exact updateWaiters_port ..
  · rfl

/-- A walk that has just started asks for no answer yet (R91). -/
theorem startWalk_port {w : Walk} (waits : w.state = .waitingTag) : { s with walks := s.walks ++ [w] }.port = s.port :=
  port_of_walks (by simp [Walk.request, waits])

theorem miss_port (a : ApIndex) (gen : Generation) (page : Nat) (m : MemAddr) (q : Request) :
    (s.miss a gen page m q).port = s.port := by
  unfold State.miss
  split
  · exact park_port ..
  · split
    · exact (park_port ..).trans (startWalk_port s rfl)
    · rfl

theorem mark_port (n : SlotId) (pw : PostedWrite → Bool) (pr : ReadEntry → Bool) : (s.mark n pw pr).port = s.port := by
  refine port_of_entries (filterMap_map_of_same (fun e => ?_) _) (filterMap_map_of_same (fun d => ?_) _) <;> split <;> rfl

theorem complete_port (n : SlotId) : (s.complete n).port = s.port := by
  rw [complete_frame]
  rfl

theorem waitOrComplete_port (n : SlotId) : (s.waitOrComplete n).port = s.port := by
  unfold State.waitOrComplete
  split
  · rfl
  · exact complete_port ..

theorem completeIf_port (n : SlotId) (c : Command) : (s.completeIf n c).port = s.port := by
  unfold State.completeIf
  split
  · exact complete_port ..
  · rfl

theorem tellAll_port (lost : Bool) (marks : MarkSet) (ns : List SlotId) : (s.tellAll lost marks ns).port = s.port := by
  rw [tellAll_frame]
  rfl

theorem endPreload_port (n : SlotId) (o : PreloadEnd) : (s.endPreload n o).port = s.port := by
  rw [endPreload_frame]
  rfl

theorem endPreloadOf_port (w : Walk) (o : PreloadEnd) : (s.endPreloadOf w o).port = s.port := by
  rw [endPreloadOf_frame]
  rfl

theorem answerRead_port (d : ReadEntry) (o : PortOutcome) : (s.answerRead d o).port = s.port := by
  rw [answerRead_frame]
  rfl

/-- A read that a departed write held becomes READY, not ISSUED (R126). -/
theorem freeRead_request (k : Nat) (d : ReadEntry) : (freeRead k d).request = d.request := by
  unfold freeRead
  dsimp only
  split
  · next freed => simp [ReadEntry.request, freed.1]
  · rfl

/-- A link reset sets every discard flag and no state (R64). -/
theorem discards_port : { s with rdt := s.rdt.map fun (d : ReadEntry) => { d with discard := true } }.port = s.port := by
  refine port_of_entries rfl (filterMap_map_of_same (fun d => ?_) _)
  rfl

/-! ### Arrivals (R51) -/

theorem translate_port (a : ApIndex) (g : Grant) (q : Request) : (s.translate a g q).port = s.port := by
  unfold State.translate
  split
  · exact enter_port ..
  · dsimp only
    split
    · unfold State.hit
      split
      · exact enter_port ..
      · exact aborted_port ..
    · exact miss_port ..

theorem checkArrival_port (q : Request) : (s.checkArrival q).port = s.port := by
  unfold State.checkArrival
  split
  · split
    · unfold State.checkAdmission
      split
      · rfl
      · split
        · exact aborted_port ..
        · split
          · exact translate_port ..
          · exact aborted_port ..
    · rfl
  · exact aborted_port ..

end Same

/-! ### Departures (R115, R129, R95) -/

theorem departWrite_port (s : State) (p : PortTagId) (o : PortOutcome) :
    (s.departWrite p o).port = (s.dropOwner p .write).port := by
  unfold State.departWrite State.dropOwner
  split
  · next none => rw [List.eraseP_of_forall_not (List.find?_eq_none.1 none)]
  · next e found =>
    have left : { s with pwq := s.pwq.eraseP (PostedWrite.holdsTag p), rdt := s.rdt.map (freeRead e.seq) }.port =
        { s with pwq := s.pwq.eraseP (PostedWrite.holdsTag p) }.port :=
      port_of_entries (s := { s with pwq := s.pwq.eraseP (PostedWrite.holdsTag p) }) rfl
        (filterMap_map_of_same (freeRead_request e.seq) _)
    dsimp only
    split
    · exact (tellAll_port ..).trans left
    · exact (tellAll_port ..).trans ((capture_port ..).trans left)

theorem departRead_port (s : State) (p : PortTagId) (o : PortOutcome) : (s.departRead p o).port = (s.dropOwner p .read).port := by
  unfold State.departRead State.dropOwner
  split
  · next none => rw [List.eraseP_of_forall_not (List.find?_eq_none.1 none)]
  · dsimp only
    split
    · exact (tellAll_port ..).trans (answerRead_port ..)
    · exact (tellAll_port ..).trans ((capture_port ..).trans (answerRead_port ..))

theorem resumeWaiter_port (pe : PageEntry) (w : Walk) (q : Request) (s : State) : (State.resumeWaiter pe w q s).port = s.port := by
  unfold State.resumeWaiter
  split
  · exact enter_port ..
  · exact aborted_port ..

/-- Turns that each leave the port as it is do so together, and then the walk ends. -/
theorem finished_port {finish : Walk → Request → State → State} (turn : ∀ w q u, (finish w q u).port = u.port) {s u : State}
    (same : u.port = s.port) (p : PortTagId) (k : Nat) :
    ((State.finishWaiters p finish k u).removeWalk p).port = (s.dropOwner p .walk).port :=
  dropOwner_congr (finishWaiters_keeps (fun v => v.port = s.port)
    (fun _ w q _ kept _ _ => (turn w q _).trans ((updateWaiters_port ..).trans kept)) k u same) p .walk

theorem completeWalk_port (s : State) (p : PortTagId) (w : Walk) (o : PortOutcome) :
    (s.completeWalk p w o).port = (s.dropOwner p .walk).port := by
  have noPage : ∀ w q u, (State.noPageWaiter w q u).port = u.port := fun _ _ _ => aborted_port ..
  have failed : ∀ qual w q u, (State.walkErrorWaiter qual w q u).port = u.port := fun _ _ _ _ => aborted_port ..
  cases o with
  | ok data =>
    unfold State.completeWalk
    dsimp only
    split
    · exact finished_port (resumeWaiter_port _) (endPreloadOf_port ..) p _
    · exact finished_port noPage (endPreloadOf_port ..) p _
  | error => exact finished_port (failed .error) (endPreloadOf_port ..) p _
  | timeout => exact finished_port (failed .timeout) (endPreloadOf_port ..) p _

theorem departWalk_port (s : State) (p : PortTagId) (o : PortOutcome) : (s.departWalk p o).port = (s.dropOwner p .walk).port := by
  unfold State.departWalk
  split
  · next none =>
    unfold State.dropOwner State.removeWalk
    rw [List.eraseP_of_forall_not (List.find?_eq_none.1 none)]
  · split
    · rfl
    · exact completeWalk_port ..

/-- An owner that takes its outcome leaves; all else that it causes stays off the port (R159, R161). -/
theorem ownerTakes_port (s : State) (p : PortTagId) (k : PortKind) (o : PortOutcome) :
    (s.ownerTakes p k o).port = (s.dropOwner p k).port := by
  cases k with
  | walk => exact departWalk_port s p o
  | write => exact departWrite_port s p o
  | read => exact departRead_port s p o

/-! ### Grants (R156, R157) -/

/-- The first entry that waits for a grant gets one, and its request joins those awaited. -/
theorem filterMap_issued {α : Type} {request : α → Option PortMessage} {waits : α → Bool} {issue : α → α} {l : List α} {x : α}
    {m : PortMessage} (found : l.find? waits = some x) (silent : request x = none) (asks : request (issue x) = some m) :
    ((updateFirst waits issue l).filterMap request).Perm (m :: l.filterMap request) := by
  obtain ⟨l₁, l₂, rfl, before, meets⟩ := first_of_find found
  rw [updateFirst_split _ _ before meets]
  simp only [List.filterMap_append, List.filterMap_cons, silent, asks]
  exact List.perm_middle

theorem issueWalk_portMove {s t : State} {p : PortTagId} {w : Walk} (free : s.portTags.get p = .free)
    (found : s.walks.find? Walk.waits = some w) (same : t.port = (s.issueWalk p w).port) : PortMove s (.grant p) t := by
  obtain ⟨awaited, tags, out⟩ := port_eq_iff.1 same
  have waits : w.waits = true := List.find?_some found
  have state : w.state = .waitingTag := of_decide_eq_true waits
  refine .issues p .walk (.walkRead p w.entryAddr) rfl free rfl tags out ?_ fun j other => ?_
  · rw [awaited]
    exact filterMap_issued found (by rw [Walk.request, state]) rfl
  · rw [awaited]
    exact awaited_walks_ne s _ other

theorem issueWrite_portMove {s t : State} {p : PortTagId} {e : PostedWrite} (free : s.portTags.get p = .free)
    (found : s.pwq.find? PostedWrite.isQueued = some e) (same : t.port = (s.issueWrite p e).port) : PortMove s (.grant p) t := by
  obtain ⟨awaited, tags, out⟩ := port_eq_iff.1 same
  have waits : e.isQueued = true := List.find?_some found
  have state : e.state = .queued := of_decide_eq_true waits
  refine .issues p .write (.write p e.memAddr e.length e.enables e.data) rfl free rfl tags out ?_ fun j other => ?_
  · rw [awaited]
    exact filterMap_issued found (by rw [PostedWrite.request, state]) rfl
  · rw [awaited]
    exact awaited_pwq_ne s _ other

theorem issueRead_portMove {s t : State} {p : PortTagId} {d : ReadEntry} (free : s.portTags.get p = .free)
    (found : s.rdt.find? ReadEntry.isReady = some d) (same : t.port = (s.issueRead p d).port) : PortMove s (.grant p) t := by
  obtain ⟨awaited, tags, out⟩ := port_eq_iff.1 same
  have waits : d.isReady = true := List.find?_some found
  have state : d.state = .ready := of_decide_eq_true waits
  refine .issues p .read (.read p d.memAddr d.length) rfl free rfl tags out ?_ fun j other => ?_
  · rw [awaited]
    exact filterMap_issued found (by rw [ReadEntry.request, state]) rfl
  · rw [awaited]
    exact awaited_rdt_ne s _ other

theorem arbitrate_portMove {s : State} {p : PortTagId} (free : s.portTags.get p = .free) :
    PortMove s (.grant p) (s.arbitrate p) := by
  obtain ⟨w, found, h⟩ | ⟨-, e, found, ⟨h, -⟩ | ⟨h, -⟩⟩ | ⟨-, d, found, ⟨h, -⟩ | ⟨h, -⟩⟩ | h := arbitrate_cases s p <;> rw [h]
  · exact issueWalk_portMove free found rfl
  · exact issueWrite_portMove free found rfl
  · exact issueWrite_portMove free found rfl
  · exact issueRead_portMove free found rfl
  · exact issueRead_portMove free found rfl
  · exact .quiet rfl

/-! ### Takes -/

section Takes

variable {s : State}

theorem takeOf_port {c : Option Command} {body : SlotId → State} (taken : ∀ n, (body n).port = s.port) :
    (s.takeOf c body).port = s.port := by
  obtain ⟨n, -, -, h⟩ | h := takeOf_cases s c body <;> rw [h]
  exact taken n

theorem takeRequester_port {c : Option Command} {body : SlotId → RequesterId → State} (taken : ∀ n r, (body n r).port = s.port) :
    (s.takeOf c fun n => s.takeRequester n (body n)).port = s.port :=
  takeOf_port fun n => by
    unfold State.takeRequester
    split
    · rfl
    · exact taken n _

variable (n : SlotId)

theorem takeApSet_port : (s.takeApSet n).port = s.port := by
  unfold State.takeApSet State.grantAperture
  dsimp only
  repeat' split
  all_goals rfl

theorem takeQueryAperture_port : (s.takeQueryAperture n).port = s.port := by
  unfold State.takeQueryAperture
  split <;> rfl

/-- A TC_PRELOAD joins a walk or starts one, and asks for no tag itself (R81). -/
theorem preloadWalk_port (a : ApIndex) (gen : Generation) (page : Nat) (m : MemAddr) :
    (s.preloadWalk n a gen page m).port = s.port := by
  unfold State.preloadWalk
  dsimp only
  split
  · refine port_of_walks (filterMap_updateFirst_of_same (fun w => ?_) _)
    rfl
  · split
    · exact startWalk_port s rfl
    · rfl

theorem preloadPresent_port (p : TcEntry → Bool) (e : TcEntry) : (s.preloadPresent n p e).port = s.port := by
  unfold State.preloadPresent
  dsimp only
  split <;> rfl

theorem takeTcPreload_port : (s.takeTcPreload n).port = s.port := by
  unfold State.takeTcPreload
  dsimp only
  split
  · rfl
  · split
    · split
      · rfl
      · split
        · split
          · exact preloadPresent_port ..
          · exact preloadWalk_port ..
        · rfl
    · rfl

theorem takeTcUnpin_port : (s.takeTcUnpin n).port = s.port := by
  unfold State.takeTcUnpin
  dsimp only
  repeat' split
  all_goals rfl

theorem takeQueryTc_port : (s.takeQueryTc n).port = s.port := by
  unfold State.takeQueryTc
  dsimp only
  split <;> rfl

/-- A command that drains an aperture answers walks' waiters and marks entries. -/
theorem drains_port (u : State) (e : TcEntry → Bool) (p : Walk → Bool) (x : LinkReply) (pw : PostedWrite → Bool)
    (pr : ReadEntry → Bool) (v v' : Word) :
    ((((((u.dropEntries e).orphan p x).mark n pw pr).writeWord n 5 v).writeWord n 6 v').waitOrComplete n).port = u.port := by
  have marked : (((u.dropEntries e).orphan p x).mark n pw pr).port = u.port := (mark_port ..).trans (orphan_port ..)
  exact (waitOrComplete_port ..).trans marked

theorem takeApRetire_port : (s.takeApRetire n).port = s.port := by
  unfold State.takeApRetire
  split
  · rfl
  · split
    · rfl
    · rfl
    · split
      · exact drains_port n ..
      · rfl

theorem takeApInvalidate_port : (s.takeApInvalidate n).port = s.port := by
  unfold State.takeApInvalidate
  dsimp only
  split
  · rfl
  · split
    · split
      · exact drains_port n ..
      · rfl
    · rfl

theorem takeFlush_port : (s.takeFlush n).port = s.port :=
  (waitOrComplete_port ..).trans (mark_port s n (fun _ => true) fun _ => false)

variable (r : RequesterId)

theorem enable_port : (s.enable n r).port = s.port := by
  unfold State.enable
  dsimp only
  split <;> rfl

theorem disable_port : (s.disable n r).port = s.port := by
  unfold State.disable
  dsimp only
  split
  · exact release_port ..
  · rfl

theorem drainRequester_port (u : State) : (u.drainRequester n r).port = u.port := (waitOrComplete_port ..).trans (mark_port ..)

theorem halt_port : (s.halt n r).port = s.port := by
  unfold State.halt
  dsimp only
  split
  · exact (drainRequester_port ..).trans (release_port ..)
  · exact drainRequester_port ..
  all_goals rfl

theorem resume_port : (s.resume n r).port = s.port := by
  unfold State.resume
  dsimp only
  split <;> rfl

end Takes

/-! ### The window and part resets (R174, R176) -/

/-- A word write that is no write of CONTROL with SOFT_RESET set stays off the port. -/
theorem hostWriteAt_port (s : State) {w : WindowWord} {v : Word} (noReset : w = .control → v.getLsbD 1 = false) :
    (s.hostWriteAt w v).port = s.port := by
  cases w with
  | control =>
    have stays : s.hostWriteAt .control v = { s with linkEnable := v.getLsbD 0 } := if_neg (by rw [noReset rfl]; simp)
    rw [stays]
    rfl
  | slot n k =>
    simp only [State.hostWriteAt, State.hostWord, State.hostWord7, State.startSlot, State.ackSlot]
    repeat' split
    all_goals rfl
  | id | intStatus | intEnable | responseLimit | unlisted => rfl

theorem hostWrite_port (s : State) {w : WindowWord} {v : Word}
    (noReset : s.resetLow = false → w = .control → v.getLsbD 1 = false) : (s.hostWrite w v).port = s.port := by
  unfold State.hostWrite
  split
  · rfl
  · next high => exact hostWriteAt_port s (noReset (by simpa using high))

theorem windowAt_control_iff (addr : Nat) : windowAt addr = .control ↔ addr / 4 = 1 := by
  by_cases word : addr / 4 = 1
  · simp [windowAt, word]
  · simp only [windowAt, word, if_false, iff_false]
    split_ifs <;> simp

/-- CONTROL is the word at 0x004 (R174). -/
theorem offset_of_control {off : BitVec 12} (aligned : off.toNat % 4 = 0) (control : windowAt off.toNat = .control) :
    off = 0x004 := by
  have word := (windowAt_control_iff _).1 control
  refine BitVec.eq_of_toNat_eq ?_
  change off.toNat = 4
  omega

/-- Bit 1 of a word that is written as bytes is bit 1 of the first. -/
theorem littleEndian_bit1 (b : Byte) (bs : List Byte) :
    (BitVec.ofNat 32 (littleEndian (b :: bs))).getLsbD 1 = b.getLsbD 1 := by
  have low : (b.toNat + 256 * littleEndian bs) / 2 ^ 1 % 2 = b.toNat / 2 ^ 1 % 2 := by omega
  rw [BitVec.getLsbD_ofNat, littleEndian, BitVec.getLsbD, Nat.testBit_eq_decide_div_mod_eq, Nat.testBit_eq_decide_div_mod_eq, low]
  simp

theorem hostAccess_port {s : State} {off : BitVec 12} {bytes : List Byte} (noReset : ¬s.resetsBy (.registerWrite off bytes)) :
    (s.hostAccess off.toNat bytes).port = s.port := by
  unfold State.hostAccess
  split
  · rfl
  · next high =>
    split
    · next word =>
      obtain ⟨aligned, four⟩ := word
      refine hostWriteAt_port s fun control => ?_
      obtain ⟨b₀, b₁, b₂, b₃, rfl⟩ := List.length_eq_four.1 four
      rw [littleEndian_bit1, ← Bool.not_eq_true]
      exact fun set => noReset ⟨by simpa using high, offset_of_control aligned control, b₀, b₁, b₂, b₃, rfl, set⟩
    · split <;> rfl

/-- A command that performs a part reset leaves the part as after one, but perhaps for the pin. -/
theorem exec_of_resetsBy {s : State} {c : Instr} (resets : s.resetsBy c) :
    ∃ low, exec c s = .next { s.partReset with resetLow := low } := by
  have control : ∀ v : Word, s.resetLow = false → v.getLsbD 1 = true → s.hostWriteAt .control v = s.partReset :=
    fun _ _ set => if_pos set
  cases c with
  | partReset cause => cases cause <;> exact ⟨_, rfl⟩
  | softReset v | linkEnable v =>
    obtain ⟨high, set⟩ := resets
    refine ⟨s.resetLow, congrArg Host.Outcome.next ?_⟩
    rw [State.hostWrite, if_neg (by simp [high]), control v high set]
    rfl
  | registerWrite off bytes =>
    obtain ⟨high, rfl, b₀, b₁, b₂, b₃, rfl, set⟩ := resets
    refine ⟨s.resetLow, congrArg Host.Outcome.next ?_⟩
    rw [State.hostAccess, if_neg (by simp [high]), if_pos ⟨rfl, rfl⟩]
    exact control _ high ((littleEndian_bit1 ..).trans set)
  | _ => exact resets.elim

/-! ### The commands -/

/-- Every command but a part reset makes one move at the port. -/
theorem exec_portMove {c : Instr} {s t : State} (noReset : ¬s.resetsBy c) (h : exec c s = .next t) : PortMove s c t := by
  cases c with
  | partReset cause => exact absurd trivial noReset
  | answer p a =>
    cases h
    split
    · exact .quiet rfl
    · next quarantined => exact .late p quarantined rfl
    · next k time busy => exact .ends p k time .free busy rfl (ownerTakes_port ..)
  | expiry p =>
    cases h
    split
    · next k time busy =>
      split
      · exact .ends p k time .quarantined busy rfl (ownerTakes_port ..)
      · exact .quiet rfl
    · exact .quiet rfl
    · exact .quiet rfl
  | grant p =>
    cases h
    split
    · next free => exact arbitrate_portMove free
    · exact .quiet rfl
  | arrival q =>
    cases h
    refine .quiet ?_
    split
    · rfl
    · split
      · exact capture_port ..
      · exact checkArrival_port (s.setLinkTag q.requester q.tag .busy) q
  | linkReset =>
    cases h
    exact .quiet ((discards_port _).trans (mapWaiters_port s fun _ => []))
  | apSet => cases h; exact .quiet (takeOf_port takeApSet_port)
  | apRetire => cases h; exact .quiet (takeOf_port takeApRetire_port)
  | apInvalidate => cases h; exact .quiet (takeOf_port takeApInvalidate_port)
  | queryAperture => cases h; exact .quiet (takeOf_port takeQueryAperture_port)
  | reqEnable => cases h; exact .quiet (takeRequester_port enable_port)
  | reqDisable => cases h; exact .quiet (takeRequester_port disable_port)
  | reqHalt => cases h; exact .quiet (takeRequester_port halt_port)
  | reqResume => cases h; exact .quiet (takeRequester_port resume_port)
  | faultClear | queryRequester => cases h; exact .quiet (takeRequester_port fun _ _ => rfl)
  | tcPreload => cases h; exact .quiet (takeOf_port takeTcPreload_port)
  | tcUnpin => cases h; exact .quiet (takeOf_port takeTcUnpin_port)
  | queryTc => cases h; exact .quiet (takeOf_port takeQueryTc_port)
  | flush => cases h; exact .quiet (takeOf_port takeFlush_port)
  | badOp => cases h; exact .quiet (takeOf_port fun _ => rfl)
  | apRetireCompletion | apInvalidateCompletion | flushCompletion | reqHaltCompletion =>
    cases h
    exact .quiet (completeIf_port ..)
  | tcPreloadCompletion n o =>
    cases h
    refine .quiet ?_
    split
    · exact endPreload_port ..
    · rfl
  | linkEnable v | softReset v =>
    cases h
    refine .quiet (hostWrite_port s fun high _ => ?_)
    rw [← Bool.not_eq_true]
    exact fun set => noReset ⟨high, set⟩
  | slotWordWrite n k v => cases h; exact .quiet (hostWrite_port s fun _ control => nomatch control)
  | start | ack | word7Action3 | intStatusWrite | intEnableWrite | responseLimitWrite =>
    cases h
    exact .quiet (hostWrite_port s fun _ control => nomatch control)
  | registerWrite off bytes => cases h; exact .quiet (hostAccess_port noReset)
  | resetNRelease => cases h; exact .quiet rfl

end Sys2Proof.Machine

/-! ## Every step keeps the laws of the port -/

namespace Sys2Proof.Machine

/-- With no request awaited and every tag FREE there is nothing for the law to count. -/
theorem partReset_portTagLaw (s : State) (low : Bool) : PortTagLaw { s.partReset with resetLow := low } := by
  refine portTagLaw_iff.2 fun p k => ?_
  have free : ({ s.partReset with resetLow := low }).portTags.get p = .free := vget_replicate ..
  rw [free]
  cases k <;> rfl

theorem partReset_outstandingLaw (s : State) (low : Bool) : OutstandingLaw { s.partReset with resetLow := low } := by
  refine outstandingLaw_iff.2 fun k m awaited => ?_
  cases k <;> exact absurd awaited List.not_mem_nil

/-- A part reset gives the laws, and any other command keeps them as its move at the port does. -/
theorem exec_portTagLaw {c : Instr} {s t : State} (law : PortTagLaw s) (h : exec c s = .next t) : PortTagLaw t := by
  by_cases resets : s.resetsBy c
  · obtain ⟨low, reset⟩ := exec_of_resetsBy resets
    cases reset.symm.trans h
    exact partReset_portTagLaw s low
  · exact (exec_portMove resets h).portTagLaw law

theorem exec_outstandingLaw {c : Instr} {s t : State} (tagLaw : PortTagLaw s) (law : OutstandingLaw s)
    (h : exec c s = .next t) : OutstandingLaw t := by
  by_cases resets : s.resetsBy c
  · obtain ⟨low, reset⟩ := exec_of_resetsBy resets
    cases reset.symm.trans h
    exact partReset_outstandingLaw s low
  · exact (exec_portMove resets h).outstandingLaw tagLaw law

/-- A microsecond later each tag is BUSY with the same kind, or as it was (R160). -/
theorem tagKind_laterTag (tag : PortTag) : tagKind (laterTag tag) = tagKind tag := by
  cases tag <;> rfl

theorem tick_portTagLaw {s : State} (law : PortTagLaw s) : PortTagLaw s.tick := by
  intro p k
  rw [tick_portTag, tagKind_laterTag]
  exact law p k

/-- Settles O49: a grant of a FREE tag gives it its one owner, an answer or an expiry takes it away, and nothing else touches an
owner's tag. -/
theorem everyStepKeepsOneOwnerForABusyPortTag : Obligations.EveryStepKeepsOneOwnerForABusyPortTag :=
  keptByStep_of_exec (fun _ _ law => law) (fun _ => tick_portTagLaw) fun _ _ _ => exec_portTagLaw

/-- The queue of commands says nothing of whether a command performs a part reset. -/
theorem resetsBy_pending (s : State) (rest : List Instr) (c : Instr) : { s with pending := rest }.resetsBy c ↔ s.resetsBy c := by
  cases c <;> exact Iff.rfl

/-- A step whose command performs a part reset sends the reset signal (R163, R174, R176). -/
theorem step_sendsResetSignal {s t : State} {c : Instr} {rest : List Instr} (h : step s = .next t) (front : s.pending = c :: rest)
    (resets : s.resetsBy c) : t.portOut = s.portOut ++ [.resetSignal] := by
  obtain ⟨low, reset⟩ := exec_of_resetsBy ((resetsBy_pending s rest c).2 resets)
  rw [step, front] at h
  cases reset.symm.trans h
  rfl

/-- A step whose command performs no part reset issues nothing, or one request by a grant of a FREE tag (R154, R156). -/
theorem step_issuesByGrant {s t : State} (h : step s = .next t) (noReset : ∀ c rest, s.pending = c :: rest → ¬s.resetsBy c) :
    t.portOut = s.portOut ∨
      ∃ p rest m, s.pending = .grant p :: rest ∧ s.portTags.get p = .free ∧ messageTag m = some p ∧
        t.portOut = s.portOut ++ [m] := by
  obtain ⟨c, rest, front, h⟩ | ⟨-, rfl⟩ := step_cases h
  · have stays := fun resets => noReset c rest front ((resetsBy_pending s rest c).1 resets)
    obtain none | ⟨p, m, rfl, free, under, out⟩ := (exec_portMove stays h).portOut
    · exact .inl none
    · exact .inr ⟨p, rest, m, front, free, under, out⟩
  · exact .inl rfl

/-- Settles O59: the request that a grant issues is the last one under its tag, and under a tag that is not FREE none is issued
before its owner has left. -/
theorem everyStepKeepsPortRequestsInOrderOfTheirGrants : Obligations.EveryStepKeepsPortRequestsInOrderOfTheirGrants := by
  refine ⟨fun s t h => ⟨fun c rest => step_sendsResetSignal h, step_issuesByGrant h⟩, ?_⟩
  refine keptByStep_of_exec (fun _ _ laws => laws) (fun s ⟨tags, last⟩ => ⟨tick_portTagLaw tags, last⟩) ?_
  exact fun _ _ _ ⟨tags, last⟩ h => ⟨exec_portTagLaw tags h, exec_outstandingLaw tags last h⟩

end Sys2Proof.Machine

/-! ## Time and part resets -/

namespace Sys2Proof.Machine

/-- Settles O2: the step is the tick of every tag, and a tag that is not BUSY counts nothing. -/
theorem emptyQueueStepCountsOneMicrosecond : Obligations.EmptyQueueStepCountsOneMicrosecond := by
  intro s empty
  have run : step s = .next s.tick := by rw [step, empty]
  refine ⟨s.tick, run, fun p k n busy => ?_, fun p idle => ?_, rfl⟩
  · rw [tick_portTag, busy, laterTag]
  · rw [tick_portTag]
    cases tag : s.portTags.get p with
    | free | quarantined => rfl
    | busy k n => simp [tag, tagKind] at idle

/-- Settles O5: both causes of PART_RESET and a write of CONTROL with SOFT_RESET set come to `State.partReset`. -/
theorem partResetGivesTheResetState : Obligations.PartResetGivesTheResetState := by
  refine fun s => ⟨rfl, rfl, fun v high set => ?_⟩
  have written : s.hostWrite .control v = s.partReset := by
    rw [State.hostWrite, high]
    exact if_pos set
  exact congrArg Host.Outcome.next written

end Sys2Proof.Machine

/-! ## Command slots and the control window -/

namespace Sys2Proof.Machine

/-! ### The search for the oldest eligible slot (R170) -/

/-- A slot behind the slots `ahead` that a take may take: PENDING, and none of `ahead` has its target (R170). -/
def State.eligibleBehind (s : State) (ahead : List SlotId) (n : SlotId) : Prop :=
  (s.slots.get n).state = .pending ∧
    ∀ m ∈ ahead, slotTarget (s.slots.get n) ≠ none → slotTarget (s.slots.get m) ≠ slotTarget (s.slots.get n)

/-- The targets of the slots that the search has passed, the latest first. -/
def State.targetsOf (s : State) (ahead : List SlotId) : List Target :=
  (ahead.filterMap fun m => slotTarget (s.slots.get m)).reverse

section Search

variable {s : State} {ahead l : List SlotId} {n : SlotId}

theorem mem_targetsOf {g : Target} : g ∈ s.targetsOf ahead ↔ ∃ m ∈ ahead, slotTarget (s.slots.get m) = some g := by
  simp [State.targetsOf]

theorem targetsOf_append_none (target : slotTarget (s.slots.get n) = none) :
    s.targetsOf (ahead ++ [n]) = s.targetsOf ahead := by
  simp [State.targetsOf, target]

theorem targetsOf_append_some {g : Target} (target : slotTarget (s.slots.get n) = some g) :
    s.targetsOf (ahead ++ [n]) = g :: s.targetsOf ahead := by
  simp [State.targetsOf, target]

theorem eligibleBehind_of_none (target : slotTarget (s.slots.get n) = none) :
    s.eligibleBehind ahead n ↔ (s.slots.get n).state = .pending := by
  simp [State.eligibleBehind, target]

theorem eligibleBehind_of_some {g : Target} (target : slotTarget (s.slots.get n) = some g) :
    s.eligibleBehind ahead n ↔ (s.slots.get n).state = .pending ∧ g ∉ s.targetsOf ahead := by
  simp [State.eligibleBehind, target, mem_targetsOf]

theorem not_eligibleBehind :
    ¬s.eligibleBehind ahead n ↔ ((s.slots.get n).state = .pending →
      slotTarget (s.slots.get n) ≠ none ∧ ∃ m ∈ ahead, slotTarget (s.slots.get m) = slotTarget (s.slots.get n)) := by
  simp only [State.eligibleBehind, not_and, not_forall, ne_eq, not_not]
  exact imp_congr_right fun _ => ⟨fun ⟨m, hm, target, same⟩ => ⟨target, m, hm, same⟩, fun ⟨target, m, hm, same⟩ => ⟨m, hm, target, same⟩⟩

theorem firstEligible_of_eligible (eligible : s.eligibleBehind ahead n) :
    s.firstEligible (s.targetsOf ahead) (n :: l) = some n := by
  rw [State.firstEligible]
  split
  · next none => exact if_pos ((eligibleBehind_of_none none).1 eligible)
  · next some => exact if_pos ((eligibleBehind_of_some some).1 eligible)

theorem firstEligible_of_not_eligible (not : ¬s.eligibleBehind ahead n) :
    s.firstEligible (s.targetsOf ahead) (n :: l) = s.firstEligible (s.targetsOf (ahead ++ [n])) l := by
  rw [State.firstEligible]
  split
  · next none => rw [if_neg (mt (eligibleBehind_of_none none).2 not), targetsOf_append_none none]
  · next some => rw [if_neg (mt (eligibleBehind_of_some some).2 not), targetsOf_append_some some]

/-- The search gives the first slot that is eligible behind all those before it. -/
theorem firstEligible_eq_some_iff :
    s.firstEligible (s.targetsOf ahead) l = some n ↔
      ∃ l₁ l₂, l = l₁ ++ n :: l₂ ∧ s.eligibleBehind (ahead ++ l₁) n ∧
        ∀ k₁ m k₂, l₁ = k₁ ++ m :: k₂ → ¬s.eligibleBehind (ahead ++ k₁) m := by
  induction l generalizing ahead with
  | nil => simp [State.firstEligible]
  | cons m ms ih =>
    by_cases head : s.eligibleBehind ahead m
    · rw [firstEligible_of_eligible head, Option.some_inj]
      constructor
      · rintro rfl
        exact ⟨[], ms, rfl, by simpa using head, by simp⟩
      · rintro ⟨_ | ⟨_, l₁⟩, l₂, split, -, first⟩
        · exact (List.cons.inj split).1
        · obtain ⟨rfl, -⟩ := List.cons.inj split
          exact absurd (by simpa using head) (first [] m l₁ rfl)
    · rw [firstEligible_of_not_eligible head, ih]
      constructor
      · rintro ⟨l₁, l₂, rfl, eligible, first⟩
        refine ⟨m :: l₁, l₂, rfl, by simpa using eligible, ?_⟩
        rintro (_ | ⟨_, k₁⟩) i k₂ split
        · obtain ⟨rfl, -⟩ := List.cons.inj split
          simpa using head
        · obtain ⟨rfl, behind⟩ := List.cons.inj split
          simpa using first k₁ i k₂ behind
      · rintro ⟨_ | ⟨_, l₁⟩, l₂, split, eligible, first⟩
        · obtain ⟨rfl, -⟩ := List.cons.inj split
          exact absurd (by simpa using eligible) head
        · obtain ⟨rfl, rfl⟩ := List.cons.inj split
          exact ⟨l₁, l₂, rfl, by simpa using eligible, fun k₁ i k₂ split => by
            simpa using first (m :: k₁) i k₂ (congrArg _ split)⟩

end Search

/-- Settles O40: the take searches the submission list with no target seen. -/
theorem nextTakeIsTheOldestEligibleSlot : Obligations.NextTakeIsTheOldestEligibleSlot := by
  intro s n
  refine (firstEligible_eq_some_iff (ahead := [])).trans ?_
  simp only [List.nil_append, not_eligibleBehind]
  simp only [State.eligibleBehind, and_assoc]

/-! ### Whole-word writes (R166 to R168, R172 to R175) -/

theorem hostWrite_of_high {s : State} (high : s.resetLow = false) (w : WindowWord) (v : Word) :
    s.hostWrite w v = s.hostWriteAt w v := if_neg (by simp [high])

theorem hostWriteAt_word7 (s : State) (n : SlotId) (v : Word) : s.hostWriteAt (.slot n 7) v = s.hostWord7 n v := rfl

theorem hostWriteAt_word (s : State) (n : SlotId) (k : Fin 7) (v : Word) :
    s.hostWriteAt (.slot n k.castSucc) v = s.hostWord n k v := dif_pos k.isLt

section Action

variable (s : State) (n : SlotId) {v : Word}

theorem hostWord7_of_action0 (action : writtenAction v = 0#2) : s.hostWord7 n v = s := by
  rw [State.hostWord7, ← writtenAction, action]
  rfl

theorem hostWord7_of_start (action : writtenAction v = 1#2) : s.hostWord7 n v = s.startSlot n := by
  rw [State.hostWord7, ← writtenAction, action]
  rfl

theorem hostWord7_of_ack (action : writtenAction v = 2#2) : s.hostWord7 n v = s.ackSlot n := by
  rw [State.hostWord7, ← writtenAction, action]
  rfl

theorem hostWord7_of_action3 (action : writtenAction v = 3#2) : s.hostWord7 n v = s.refuseWrite := by
  rw [State.hostWord7, ← writtenAction, action]
  rfl

end Action

theorem ended_iff {sl : Slot} : ended sl = true ↔ sl.state = .done ∨ sl.state = .failed := by simp [ended]

theorem ackSlot_eq (s : State) (n : SlotId) :
    s.ackSlot n =
      if (s.slots.get n).state = .done ∨ (s.slots.get n).state = .failed then
        s.setSlot n { state := .free, words := (s.slots.get n).words, status := .none, qualifier := .error }
      else s.refuseWrite := if_congr ended_iff rfl rfl

/-- Settles O42: word 7 by its action field, words 0 to 6 by the slot's state. -/
theorem slotWritesAreTakenOrRefused : Obligations.SlotWritesAreTakenOrRefused := by
  intro s n v high
  have word7 := (hostWrite_of_high high (.slot n 7) v).trans (hostWriteAt_word7 s n v)
  refine ⟨fun start => congrArg Host.Outcome.next ?_, fun ack => congrArg Host.Outcome.next ?_,
    fun action3 => congrArg Host.Outcome.next ?_, fun k => congrArg Host.Outcome.next ?_⟩
  · exact word7.trans (hostWord7_of_start s n start)
  · exact word7.trans ((hostWord7_of_ack s n ack).trans (ackSlot_eq s n))
  · exact word7.trans (hostWord7_of_action3 s n action3)
  · exact (hostWrite_of_high high _ v).trans (hostWriteAt_word s n k v)

theorem hostIntStatus_eq (s : State) (v : Word) :
    s.hostIntStatus v = if v.getLsbD 2 = true then { s with submitError := false } else s := by
  unfold State.hostIntStatus
  split
  · next set => rw [set, Bool.not_true, Bool.and_false]
  · next clear => rw [Bool.eq_false_iff.2 clear, Bool.not_false, Bool.and_true]

theorem hostControl_of_no_reset (s : State) {v : Word} (noReset : v.getLsbD 1 = false) :
    s.hostControl v = { s with linkEnable := v.getLsbD 0 } := if_neg (Bool.not_eq_true _ ▸ noReset)

/-- Settles O43: each register's write stores its fields. -/
theorem registerWritesStoreTheirFields : Obligations.RegisterWritesStoreTheirFields := by
  intro s v high
  have written := fun w => hostWrite_of_high high w v
  exact ⟨congrArg Host.Outcome.next ((written .intStatus).trans (hostIntStatus_eq s v)),
    congrArg Host.Outcome.next (written .intEnable), congrArg Host.Outcome.next (written .responseLimit),
    fun noReset => congrArg Host.Outcome.next ((written .control).trans (hostControl_of_no_reset s noReset))⟩

/-! ### Accesses by bytes (R175, R178) -/

/-- The bytes of the listed words: 0x000 to 0x013 and 0x100 to 0x1FF. -/
theorem listedAt_iff {addr : Nat} : listedAt addr = true ↔ addr < 0x14 ∨ 0x100 ≤ addr ∧ addr < 0x200 := by
  rw [listedAt, decide_eq_true_eq]
  constructor
  · intro listed
    by_contra out
    exact listed (windowAt_unlisted (by omega) (by omega))
  · intro listed unlisted
    unfold windowAt at unlisted
    dsimp only at unlisted
    split_ifs at unlisted
    omega

/-- Word 7 of slot n stands at 0x11C + 32 n. -/
theorem windowAt_word7 (n : SlotId) : windowAt (0x100 + 32 * n.val + 28) = .slot n 7 := windowAt_slot n 7

/-- The word that holds a byte is the one at the aligned address below it. -/
theorem windowAt_aligned (addr : Nat) : windowAt (4 * (addr / 4)) = windowAt addr := by
  simp only [windowAt, Nat.mul_div_cancel_left (addr / 4) (show 0 < 4 by omega)]

theorem toNat_append_byte {w : Nat} (x : BitVec w) (b : Byte) : (x ++ b).toNat = b.toNat + 256 * x.toNat := by
  rw [BitVec.toNat_append, ← Nat.shiftLeft_add_eq_or_of_lt b.isLt, Nat.shiftLeft_eq]
  omega

/-- Four bytes of a write, least significant first, as the word they spell. -/
theorem littleEndian_word (b₀ b₁ b₂ b₃ : Byte) :
    BitVec.ofNat 32 (littleEndian [b₀, b₁, b₂, b₃]) = b₃ ++ b₂ ++ b₁ ++ b₀ := by
  have spelled : littleEndian [b₀, b₁, b₂, b₃] = (b₃ ++ b₂ ++ b₁ ++ b₀).toNat := by
    simp only [littleEndian, toNat_append_byte]
    omega
  rw [spelled, BitVec.ofNat_toNat, BitVec.setWidth_eq]

section Access

variable {s : State}

/-- The four bytes of an aligned word are the write of that word. -/
theorem exec_registerWrite_word (high : s.resetLow = false) {off : BitVec 12} (aligned : off.toNat % 4 = 0) (b₀ b₁ b₂ b₃ : Byte)
    {w : WindowWord} (word : windowAt off.toNat = w) :
    exec (.registerWrite off [b₀, b₁, b₂, b₃]) s = .next (s.hostWrite w (b₃ ++ b₂ ++ b₁ ++ b₀)) := by
  refine congrArg Host.Outcome.next ?_
  rw [State.hostAccess, if_neg (by simp [high]), if_pos ⟨aligned, rfl⟩, littleEndian_word, word, hostWrite_of_high high]

/-- Any other access is refused where it touches a listed word and is ignored elsewhere. -/
theorem hostAccess_partial (high : s.resetLow = false) {off : Nat} {bytes : List Byte} (other : ¬(off % 4 = 0 ∧ bytes.length = 4)) :
    s.hostAccess off bytes =
      if (List.range bytes.length).any fun i => listedAt (off + i) then s.refuseWrite else s := by
  rw [State.hostAccess, if_neg (by simp [high]), if_neg other]

theorem any_listedAt_iff {off len : Nat} :
    ((List.range len).any fun i => listedAt (off + i)) = true ↔
      ∃ i < len, off + i < 0x14 ∨ 0x100 ≤ off + i ∧ off + i < 0x200 := by
  simp only [List.any_eq_true, List.mem_range, listedAt_iff]

end Access

/-- The action field of word 7 reads 0 (R166). -/
theorem word7_action (sl : Slot) : (word7 sl).extractLsb' 24 2 = 0 := by
  obtain ⟨-, -, -, -, above⟩ := word7_fields sl
  calc (word7 sl).extractLsb' 24 2 = ((word7 sl).extractLsb' 17 15).extractLsb' 7 2 := by
        ext i hi
        simp [show 7 + i < 15 by omega, show 17 + (7 + i) = 24 + i by omega]
    _ = 0 := by rw [above]; rfl

/-- Settles O44: an access of one aligned word is that word's write, any other is refused or ignored, and a byte is read out of its
word. -/
theorem windowAccessesOfOtherThanOneWordAreRefused : Obligations.WindowAccessesOfOtherThanOneWordAreRefused := by
  intro s high
  refine ⟨fun off bytes _ other => ?_, fun off b₀ b₁ b₂ b₃ aligned => ?_, fun addr => ?_, fun n => ?_⟩
  · have access := hostAccess_partial high other
    refine ⟨fun listed => congrArg Host.Outcome.next (access.trans (if_pos (any_listedAt_iff.2 listed))),
      fun unlisted => congrArg Host.Outcome.next (access.trans (if_neg fun touched => ?_))⟩
    obtain ⟨i, inside, listed⟩ := any_listedAt_iff.1 touched
    exact unlisted i inside listed
  · have write := fun {w} (word : windowAt off.toNat = w) => exec_registerWrite_word high aligned b₀ b₁ b₂ b₃ word
    have kept : ∀ {w}, windowAt off.toNat = w → s.hostWriteAt w (b₃ ++ b₂ ++ b₁ ++ b₀) = s →
        exec (.registerWrite off [b₀, b₁, b₂, b₃]) s = .next s :=
      fun word keeps => (write word).trans (congrArg Host.Outcome.next ((hostWrite_of_high high ..).trans keeps))
    refine ⟨?_, fun control _ => write (congrArg windowAt control), fun control _ => write (congrArg windowAt control),
      fun intStatus => write (congrArg windowAt intStatus), fun intEnable => write (congrArg windowAt intEnable),
      fun limit => write (congrArg windowAt limit),
      fun n k word => write ((congrArg windowAt word).trans (windowAt_slot n k.castSucc)), fun n word => ?_⟩
    · rintro (id | unlisted)
      · exact kept (congrArg windowAt id) rfl
      · exact kept (windowAt_unlisted (by omega) (by omega)) rfl
    · have word7 := (congrArg windowAt word).trans (windowAt_word7 n)
      exact ⟨fun action0 => kept word7 (hostWord7_of_action0 s n action0), fun _ => write word7, fun _ => write word7,
        fun _ => write word7⟩
  · rw [windowByte, windowWord, windowWord, windowAt_aligned]
  · rw [windowWord_high (windowAt_word7 n) (readAt_high high _)]
    exact word7_action _

end Sys2Proof.Machine

/-! ## The step, and every law at reset

A law of the capacities, apertures, fault counts, translations, commands, preloads, drains, retirements and halts is met at reset
by the lemma that the proof of its step rests on. The other laws speak of entries of empty collections, of FREE tags, or of
RESET_N low. -/

namespace Sys2Proof.Machine

/-- Settles O1: the step is a case split on the queue, and a command at its front is the second case. -/
theorem stepRunsTheFrontCommand : Obligations.StepRunsTheFrontCommand := by
  intro s c rest front
  rw [step, front]

/-! ### Laws of the walks -/

theorem parkedLaw_reset : ParkedLaw State.reset := fun _ walk => absurd walk List.not_mem_nil

theorem parkedFormLaw_reset : ParkedFormLaw State.reset := fun _ walk => absurd walk List.not_mem_nil

theorem waiterLaw_reset : WaiterLaw State.reset := fun _ walk => absurd walk List.not_mem_nil

/-! ### Laws of the tags -/

/-- Every link tag is FREE, and no transaction is parked and no read is tracked that could hold one. -/
theorem linkTagLaw_reset : LinkTagLaw State.reset := fun r t => by
  have free : State.reset.linkTag r t = .free := by simp [State.linkTag, State.reset]
  rw [free]
  rfl

/-- Every port tag is FREE, and no walk, write or read exists that could own one. -/
theorem portTagLaw_reset : PortTagLaw State.reset := fun p k => by
  have free : State.reset.portTags.get p = .free := vget_replicate ..
  rw [free]
  cases k <;> rfl

/-- Nothing awaits an answer. -/
theorem outstandingLaw_reset : OutstandingLaw State.reset :=
  outstandingLaw_iff.2 fun k _ awaited => by cases k <;> exact absurd awaited List.not_mem_nil

/-! ### Laws of the queue and the tracker -/

theorem queueOrderLaw_reset : QueueOrderLaw State.reset := .nil

theorem readOrderLaw_reset : ReadOrderLaw State.reset :=
  readOrderLaw_iff.2 ⟨⟨.nil, fun _ write => absurd write List.not_mem_nil⟩, fun _ read => absurd read List.not_mem_nil⟩

/-! ### The law of RESET_N -/

/-- The pin is high at reset (log 4). -/
theorem resetHeldLaw_reset : ResetHeldLaw State.reset := fun low => absurd low Bool.false_ne_true

/-! ### The laws together -/

/-- Settles O4, law by law. -/
theorem resetStateMeetsEveryLaw : Obligations.ResetStateMeetsEveryLaw :=
  ⟨capacityLaw_reset, apertureLaw_reset, faultCountLaw_reset, parkedLaw_reset, parkedFormLaw_reset, waiterLaw_reset,
    linkTagLaw_reset, portTagLaw_reset, outstandingLaw_reset, queueOrderLaw_reset, readOrderLaw_reset, translationLaw_reset,
    commandLaw_reset, preloadLaw_reset, drainLaw_reset, retireLaw_reset, haltLaw_reset, resetHeldLaw_reset⟩

end Sys2Proof.Machine
